-- ==== Sys2Proof/Word.lean ====
section
/-! DEFINITION. The two word types of the hardware (rule R10): the byte and the 16-bit word. Everything that
computes with them stands in Decode.lean and under Machine/. -/

namespace Sys2Proof

/-- A byte: registers A, X, Y, SP, Flags and every memory cell (R10, R20). -/
abbrev Byte := BitVec 8

/-- A 16-bit word: PC, addresses, vectors (R10, R40). -/
abbrev Word := BitVec 16

end Sys2Proof
end

