-- ==== Sys2Proof/Config.lean ====
section
/-! DEFINITION. The parameters of rule R8, which the source leaves open. They are configuration, not state (R21):
no step changes them. The fixed interface gives `step` no configuration argument, so they ride in one field of State
(assumption 1), and every statement about every state holds for every setting of them. HALT_ADDR is an argument of a
run (Machine/Run.lean), since the spec gives it per launch. -/

namespace Sys2Proof

/-- `DECIMAL_MODE` (R8, R173): whether ADC and SBC ignore Flags.D or the model refuses them while it is 1. -/
inductive DecimalMode where
  | binary
  | refuse
  deriving DecidableEq, Repr

/-- `BRANCH_BASE_OFFSET` (R8, R150): 0, the source's literal rule, or 2, the NMOS 6502 convention. -/
inductive BranchBaseOffset where
  | zero
  | two
  deriving DecidableEq, Repr

/-- The offset as the word added to the opcode's address. -/
def BranchBaseOffset.toWord : BranchBaseOffset → Word
  | .zero => 0
  | .two => 2

/-- `BRK_PUSH_OFFSET` (R8, R160): 1, the source's literal rule, or 2, the NMOS 6502 convention. -/
inductive BrkPushOffset where
  | one
  | two
  deriving DecidableEq, Repr

/-- The offset as the word added to the opcode's address. -/
def BrkPushOffset.toWord : BrkPushOffset → Word
  | .one => 1
  | .two => 2

/-- The parameters of R8 that fix one machine, named as the table names them. -/
structure Params where
  /-- `EXT_NMOS`: the 46 extension opcodes are in the opcode table (R75). -/
  extNmos : Bool
  /-- `DECIMAL_MODE` (R173). -/
  decimalMode : DecimalMode
  /-- `BRANCH_BASE_OFFSET` (R150). -/
  branchBaseOffset : BranchBaseOffset
  /-- `BRK_PUSH_OFFSET` (R160). -/
  brkPushOffset : BrkPushOffset
  /-- `PENALTY_ON_WRITE` (R62, R63). -/
  penaltyOnWrite : Bool
  /-- `ZP_PTR_WRAP` (R57). -/
  zpPtrWrap : Bool
  /-- `JMP_IND_PAGE_BUG` (R209). -/
  jmpIndPageBug : Bool
  /-- `CYC_WIDTH`: CYC wraps modulo 2^CYC_WIDTH (R27). -/
  cycWidth : Nat
  deriving DecidableEq, Repr

end Sys2Proof
end

