-- ==== Sys2Proof/Entry.lean ====
section
/-! DEFINITION. What an entry of the opcode table is made of (R72), and the operand forms of the addressing modes
(R53 to R59). The entries themselves stand in Decode.lean. -/

namespace Sys2Proof

/-- The 56 mnemonics (R2). -/
inductive Mnemonic where
  | LDA | LDX | LDY | STA | STX | STY | INC | DEC | INX | INY | DEX | DEY | TAX | TAY
  | TXA | TYA | TSX | TXS | CLC | SEC | CLI | SEI | CLD | SED | CLV | PHA | PHP | PLA
  | PLP | BPL | BMI | BVC | BVS | BCC | BCS | BNE | BEQ | BRK | ADC | SBC | ASL | LSR
  | ROL | ROR | ORA | AND | EOR | BIT | CMP | CPX | CPY | JMP | JSR | RTS | RTI | NOP
  deriving DecidableEq, Repr

/-- The addressing modes that an entry can have, in the order of the source's enum (Glossary, section 4 of 20_memory.md);
its thirteenth member, Invalid, is the absence of an entry (R76). -/
inductive Mode where
  | implicit
  | immediate
  | zeroPage
  | zeroPageX
  | zeroPageY
  | absolute
  | absoluteX
  | absoluteY
  | indirect
  | preIndexed
  | postIndexed
  | relative
  deriving DecidableEq, Repr

/-- Which penalty rule applies to an entry (R72): `read` R61, `write` R62 and R63, `branch` R150. -/
inductive PenaltyClass where
  | none
  | read
  | write
  | branch
  deriving DecidableEq, Repr

/-- The two instruction sets of R2. -/
inductive InstrSet where
  | core
  | extNmos
  deriving DecidableEq, Repr

/-- An entry of the opcode table (R72); its length is its mode's (R71). -/
structure Entry where
  opcode : Byte
  mnemonic : Mnemonic
  mode : Mode
  baseCycles : Nat
  penalty : PenaltyClass
  set : InstrSet
  deriving DecidableEq, Repr

/-- The modes that have an effective address in memory, each with its operand byte or word (R53 to R58). -/
inductive MemForm where
  | zeroPage (z : Byte)
  | zeroPageX (z : Byte)
  | zeroPageY (z : Byte)
  | absolute (w : Word)
  | absoluteX (w : Word)
  | absoluteY (w : Word)
  | preIndexed (z : Byte)
  | postIndexed (z : Byte)
  deriving DecidableEq, Repr

/-- What `ReadOperand(mode)` reads: the operand byte itself or a memory byte (R61). -/
inductive Source where
  | immediate (v : Byte)
  | memory (f : MemForm)
  deriving DecidableEq, Repr

/-- The operand of an instruction, by its mode (R53 to R59). -/
inductive Operand where
  | implicit
  | immediate (v : Byte)
  | memory (f : MemForm)
  | indirect (p : Word)
  | relative (d : Byte)
  deriving DecidableEq, Repr

end Sys2Proof
end

