-- ==== Sys2Proof/Syntax.lean ====
section
/-! DEFINITION. The instructions: one constructor per row of spec/opcode_table.json, in the order of the spec's rules,
each with the operand its format F1, F2 or F3 carries (R70, R71). The suffix names the addressing mode: Imm, Zp, Zpx,
Zpy, Abs, Abx, Aby, Ind, Izx (Pre-Indexed-Indirect), Izy (Post-Indexed-Indirect), Acc (the Implicit form of a shift,
which works on A, R74). -/

namespace Sys2Proof

/-- The 151 entries of the opcode table (R74, R75). -/
inductive Instr where
  -- LDA (R100)
  | ldaIzx (z : Byte)
  | ldaZp (z : Byte)
  | ldaImm (v : Byte)
  | ldaAbs (w : Word)
  | ldaIzy (z : Byte)
  | ldaZpx (z : Byte)
  | ldaAby (w : Word)
  | ldaAbx (w : Word)
  -- LDX (R101)
  | ldxImm (v : Byte)
  | ldxZp (z : Byte)
  | ldxAbs (w : Word)
  | ldxZpy (z : Byte)
  | ldxAby (w : Word)
  -- LDY (R102)
  | ldyImm (v : Byte)
  | ldyZp (z : Byte)
  | ldyAbs (w : Word)
  | ldyZpx (z : Byte)
  | ldyAbx (w : Word)
  -- STA (R103)
  | staIzx (z : Byte)
  | staZp (z : Byte)
  | staAbs (w : Word)
  | staIzy (z : Byte)
  | staZpx (z : Byte)
  | staAby (w : Word)
  | staAbx (w : Word)
  -- STX (R104)
  | stxZp (z : Byte)
  | stxAbs (w : Word)
  | stxZpy (z : Byte)
  -- STY (R105)
  | styZp (z : Byte)
  | styAbs (w : Word)
  | styZpx (z : Byte)
  -- INC (R110)
  | incZp (z : Byte)
  | incAbs (w : Word)
  | incZpx (z : Byte)
  | incAbx (w : Word)
  -- DEC (R111)
  | decZp (z : Byte)
  | decAbs (w : Word)
  | decZpx (z : Byte)
  | decAbx (w : Word)
  -- INX (R112)
  | inx
  -- INY (R113)
  | iny
  -- DEX (R114)
  | dex
  -- DEY (R115)
  | dey
  -- TAX (R120)
  | tax
  -- TAY (R121)
  | tay
  -- TXA (R122)
  | txa
  -- TYA (R123)
  | tya
  -- TSX (R124)
  | tsx
  -- TXS (R125)
  | txs
  -- CLC (R130)
  | clc
  -- SEC (R131)
  | sec
  -- CLI (R132)
  | cli
  -- SEI (R133)
  | sei
  -- CLD (R134)
  | cld
  -- SED (R135)
  | sed
  -- CLV (R136)
  | clv
  -- PHA (R140)
  | pha
  -- PHP (R141)
  | php
  -- PLA (R142)
  | pla
  -- PLP (R143)
  | plp
  -- BPL (R151)
  | bpl (d : Byte)
  -- BMI (R152)
  | bmi (d : Byte)
  -- BVC (R153)
  | bvc (d : Byte)
  -- BVS (R154)
  | bvs (d : Byte)
  -- BCC (R155)
  | bcc (d : Byte)
  -- BCS (R156)
  | bcs (d : Byte)
  -- BNE (R157)
  | bne (d : Byte)
  -- BEQ (R158)
  | beq (d : Byte)
  -- BRK (R160)
  | brk
  -- ADC (R171)
  | adcIzx (z : Byte)
  | adcZp (z : Byte)
  | adcImm (v : Byte)
  | adcAbs (w : Word)
  | adcIzy (z : Byte)
  | adcZpx (z : Byte)
  | adcAby (w : Word)
  | adcAbx (w : Word)
  -- SBC (R172)
  | sbcIzx (z : Byte)
  | sbcZp (z : Byte)
  | sbcImm (v : Byte)
  | sbcAbs (w : Word)
  | sbcIzy (z : Byte)
  | sbcZpx (z : Byte)
  | sbcAby (w : Word)
  | sbcAbx (w : Word)
  -- ASL (R180)
  | aslZp (z : Byte)
  | aslAcc
  | aslAbs (w : Word)
  | aslZpx (z : Byte)
  | aslAbx (w : Word)
  -- LSR (R181)
  | lsrZp (z : Byte)
  | lsrAcc
  | lsrAbs (w : Word)
  | lsrZpx (z : Byte)
  | lsrAbx (w : Word)
  -- ROL (R182)
  | rolZp (z : Byte)
  | rolAcc
  | rolAbs (w : Word)
  | rolZpx (z : Byte)
  | rolAbx (w : Word)
  -- ROR (R183)
  | rorZp (z : Byte)
  | rorAcc
  | rorAbs (w : Word)
  | rorZpx (z : Byte)
  | rorAbx (w : Word)
  -- ORA (R202)
  | oraIzx (z : Byte)
  | oraZp (z : Byte)
  | oraImm (v : Byte)
  | oraAbs (w : Word)
  | oraIzy (z : Byte)
  | oraZpx (z : Byte)
  | oraAby (w : Word)
  | oraAbx (w : Word)
  -- AND (R203)
  | andIzx (z : Byte)
  | andZp (z : Byte)
  | andImm (v : Byte)
  | andAbs (w : Word)
  | andIzy (z : Byte)
  | andZpx (z : Byte)
  | andAby (w : Word)
  | andAbx (w : Word)
  -- EOR (R204)
  | eorIzx (z : Byte)
  | eorZp (z : Byte)
  | eorImm (v : Byte)
  | eorAbs (w : Word)
  | eorIzy (z : Byte)
  | eorZpx (z : Byte)
  | eorAby (w : Word)
  | eorAbx (w : Word)
  -- BIT (R205)
  | bitZp (z : Byte)
  | bitAbs (w : Word)
  -- CMP (R206)
  | cmpIzx (z : Byte)
  | cmpZp (z : Byte)
  | cmpImm (v : Byte)
  | cmpAbs (w : Word)
  | cmpIzy (z : Byte)
  | cmpZpx (z : Byte)
  | cmpAby (w : Word)
  | cmpAbx (w : Word)
  -- CPX (R207)
  | cpxImm (v : Byte)
  | cpxZp (z : Byte)
  | cpxAbs (w : Word)
  -- CPY (R208)
  | cpyImm (v : Byte)
  | cpyZp (z : Byte)
  | cpyAbs (w : Word)
  -- JMP (R209)
  | jmpAbs (w : Word)
  | jmpInd (p : Word)
  -- JSR (R210)
  | jsr (w : Word)
  -- RTS (R211)
  | rts
  -- RTI (R212)
  | rti
  -- NOP (R213)
  | nop
  deriving DecidableEq, Repr

end Sys2Proof
end

