-- ==== Sys2Proof/Decode.lean ====
section
/-! DEFINITION. The opcode table (R72 to R76), the instruction lengths (R71), the decoder, total on any bytes (R77), and
the encoder (R70). -/

namespace Sys2Proof

/-- `lo(w)` (R10). -/
def lo (w : Word) : Byte := w.extractLsb' 0 8

/-- `hi(w)`, the page of an address (R10). -/
def hi (w : Word) : Byte := w.extractLsb' 8 8

/-- The word `{h, l}` (R10). -/
def mkWord (h l : Byte) : Word := h ++ l

/-- The instruction length of a mode, opcode included (R71). -/
def Mode.length : Mode → Nat
  | .implicit => 1
  | .immediate | .zeroPage | .zeroPageX | .zeroPageY | .preIndexed | .postIndexed | .relative => 2
  | .absolute | .absoluteX | .absoluteY | .indirect => 3

/-- The instruction length of an entry, always its mode's (R72). -/
def Entry.length (e : Entry) : Nat := e.mode.length

/-- The opcode table, read by instruction: opcode, mnemonic, mode, base cycles, penalty class and set of each row
(R72, R74, R75; the cycles are those of R411). -/
def Instr.entry : Instr → Entry
  | .ldaIzx _ => ⟨0xA1, .LDA, .preIndexed, 6, .none, .core⟩
  | .ldaZp _ => ⟨0xA5, .LDA, .zeroPage, 3, .none, .core⟩
  | .ldaImm _ => ⟨0xA9, .LDA, .immediate, 2, .none, .core⟩
  | .ldaAbs _ => ⟨0xAD, .LDA, .absolute, 4, .none, .core⟩
  | .ldaIzy _ => ⟨0xB1, .LDA, .postIndexed, 5, .read, .core⟩
  | .ldaZpx _ => ⟨0xB5, .LDA, .zeroPageX, 4, .none, .core⟩
  | .ldaAby _ => ⟨0xB9, .LDA, .absoluteY, 4, .read, .core⟩
  | .ldaAbx _ => ⟨0xBD, .LDA, .absoluteX, 4, .read, .core⟩
  | .ldxImm _ => ⟨0xA2, .LDX, .immediate, 2, .none, .core⟩
  | .ldxZp _ => ⟨0xA6, .LDX, .zeroPage, 3, .none, .core⟩
  | .ldxAbs _ => ⟨0xAE, .LDX, .absolute, 4, .none, .core⟩
  | .ldxZpy _ => ⟨0xB6, .LDX, .zeroPageY, 4, .none, .core⟩
  | .ldxAby _ => ⟨0xBE, .LDX, .absoluteY, 4, .read, .core⟩
  | .ldyImm _ => ⟨0xA0, .LDY, .immediate, 2, .none, .core⟩
  | .ldyZp _ => ⟨0xA4, .LDY, .zeroPage, 3, .none, .core⟩
  | .ldyAbs _ => ⟨0xAC, .LDY, .absolute, 4, .none, .core⟩
  | .ldyZpx _ => ⟨0xB4, .LDY, .zeroPageX, 4, .none, .core⟩
  | .ldyAbx _ => ⟨0xBC, .LDY, .absoluteX, 4, .read, .core⟩
  | .staIzx _ => ⟨0x81, .STA, .preIndexed, 6, .none, .core⟩
  | .staZp _ => ⟨0x85, .STA, .zeroPage, 3, .none, .core⟩
  | .staAbs _ => ⟨0x8D, .STA, .absolute, 4, .none, .core⟩
  | .staIzy _ => ⟨0x91, .STA, .postIndexed, 6, .write, .core⟩
  | .staZpx _ => ⟨0x95, .STA, .zeroPageX, 4, .none, .core⟩
  | .staAby _ => ⟨0x99, .STA, .absoluteY, 5, .write, .core⟩
  | .staAbx _ => ⟨0x9D, .STA, .absoluteX, 5, .write, .core⟩
  | .stxZp _ => ⟨0x86, .STX, .zeroPage, 3, .none, .core⟩
  | .stxAbs _ => ⟨0x8E, .STX, .absolute, 4, .none, .core⟩
  | .stxZpy _ => ⟨0x96, .STX, .zeroPageY, 4, .none, .core⟩
  | .styZp _ => ⟨0x84, .STY, .zeroPage, 3, .none, .core⟩
  | .styAbs _ => ⟨0x8C, .STY, .absolute, 4, .none, .core⟩
  | .styZpx _ => ⟨0x94, .STY, .zeroPageX, 4, .none, .core⟩
  | .incZp _ => ⟨0xE6, .INC, .zeroPage, 5, .none, .core⟩
  | .incAbs _ => ⟨0xEE, .INC, .absolute, 6, .none, .core⟩
  | .incZpx _ => ⟨0xF6, .INC, .zeroPageX, 6, .none, .core⟩
  | .incAbx _ => ⟨0xFE, .INC, .absoluteX, 7, .write, .core⟩
  | .decZp _ => ⟨0xC6, .DEC, .zeroPage, 5, .none, .core⟩
  | .decAbs _ => ⟨0xCE, .DEC, .absolute, 6, .none, .core⟩
  | .decZpx _ => ⟨0xD6, .DEC, .zeroPageX, 6, .none, .core⟩
  | .decAbx _ => ⟨0xDE, .DEC, .absoluteX, 7, .write, .core⟩
  | .inx => ⟨0xE8, .INX, .implicit, 2, .none, .core⟩
  | .iny => ⟨0xC8, .INY, .implicit, 2, .none, .core⟩
  | .dex => ⟨0xCA, .DEX, .implicit, 2, .none, .core⟩
  | .dey => ⟨0x88, .DEY, .implicit, 2, .none, .core⟩
  | .tax => ⟨0xAA, .TAX, .implicit, 2, .none, .core⟩
  | .tay => ⟨0xA8, .TAY, .implicit, 2, .none, .core⟩
  | .txa => ⟨0x8A, .TXA, .implicit, 2, .none, .core⟩
  | .tya => ⟨0x98, .TYA, .implicit, 2, .none, .core⟩
  | .tsx => ⟨0xBA, .TSX, .implicit, 2, .none, .core⟩
  | .txs => ⟨0x9A, .TXS, .implicit, 2, .none, .core⟩
  | .clc => ⟨0x18, .CLC, .implicit, 2, .none, .core⟩
  | .sec => ⟨0x38, .SEC, .implicit, 2, .none, .core⟩
  | .cli => ⟨0x58, .CLI, .implicit, 2, .none, .core⟩
  | .sei => ⟨0x78, .SEI, .implicit, 2, .none, .core⟩
  | .cld => ⟨0xD8, .CLD, .implicit, 2, .none, .core⟩
  | .sed => ⟨0xF8, .SED, .implicit, 2, .none, .core⟩
  | .clv => ⟨0xB8, .CLV, .implicit, 2, .none, .core⟩
  | .pha => ⟨0x48, .PHA, .implicit, 3, .none, .core⟩
  | .php => ⟨0x08, .PHP, .implicit, 3, .none, .core⟩
  | .pla => ⟨0x68, .PLA, .implicit, 4, .none, .core⟩
  | .plp => ⟨0x28, .PLP, .implicit, 4, .none, .core⟩
  | .bpl _ => ⟨0x10, .BPL, .relative, 2, .branch, .core⟩
  | .bmi _ => ⟨0x30, .BMI, .relative, 2, .branch, .core⟩
  | .bvc _ => ⟨0x50, .BVC, .relative, 2, .branch, .core⟩
  | .bvs _ => ⟨0x70, .BVS, .relative, 2, .branch, .core⟩
  | .bcc _ => ⟨0x90, .BCC, .relative, 2, .branch, .core⟩
  | .bcs _ => ⟨0xB0, .BCS, .relative, 2, .branch, .core⟩
  | .bne _ => ⟨0xD0, .BNE, .relative, 2, .branch, .core⟩
  | .beq _ => ⟨0xF0, .BEQ, .relative, 2, .branch, .core⟩
  | .brk => ⟨0x00, .BRK, .implicit, 7, .none, .core⟩
  | .adcIzx _ => ⟨0x61, .ADC, .preIndexed, 6, .none, .core⟩
  | .adcZp _ => ⟨0x65, .ADC, .zeroPage, 3, .none, .core⟩
  | .adcImm _ => ⟨0x69, .ADC, .immediate, 2, .none, .core⟩
  | .adcAbs _ => ⟨0x6D, .ADC, .absolute, 4, .none, .core⟩
  | .adcIzy _ => ⟨0x71, .ADC, .postIndexed, 5, .read, .core⟩
  | .adcZpx _ => ⟨0x75, .ADC, .zeroPageX, 4, .none, .core⟩
  | .adcAby _ => ⟨0x79, .ADC, .absoluteY, 4, .read, .core⟩
  | .adcAbx _ => ⟨0x7D, .ADC, .absoluteX, 4, .read, .core⟩
  | .sbcIzx _ => ⟨0xE1, .SBC, .preIndexed, 6, .none, .core⟩
  | .sbcZp _ => ⟨0xE5, .SBC, .zeroPage, 3, .none, .core⟩
  | .sbcImm _ => ⟨0xE9, .SBC, .immediate, 2, .none, .core⟩
  | .sbcAbs _ => ⟨0xED, .SBC, .absolute, 4, .none, .core⟩
  | .sbcIzy _ => ⟨0xF1, .SBC, .postIndexed, 5, .read, .core⟩
  | .sbcZpx _ => ⟨0xF5, .SBC, .zeroPageX, 4, .none, .core⟩
  | .sbcAby _ => ⟨0xF9, .SBC, .absoluteY, 4, .read, .core⟩
  | .sbcAbx _ => ⟨0xFD, .SBC, .absoluteX, 4, .read, .core⟩
  | .aslZp _ => ⟨0x06, .ASL, .zeroPage, 5, .none, .core⟩
  | .aslAcc => ⟨0x0A, .ASL, .implicit, 2, .none, .core⟩
  | .aslAbs _ => ⟨0x0E, .ASL, .absolute, 6, .none, .core⟩
  | .aslZpx _ => ⟨0x16, .ASL, .zeroPageX, 6, .none, .core⟩
  | .aslAbx _ => ⟨0x1E, .ASL, .absoluteX, 7, .write, .core⟩
  | .lsrZp _ => ⟨0x46, .LSR, .zeroPage, 5, .none, .core⟩
  | .lsrAcc => ⟨0x4A, .LSR, .implicit, 2, .none, .core⟩
  | .lsrAbs _ => ⟨0x4E, .LSR, .absolute, 6, .none, .core⟩
  | .lsrZpx _ => ⟨0x56, .LSR, .zeroPageX, 6, .none, .core⟩
  | .lsrAbx _ => ⟨0x5E, .LSR, .absoluteX, 7, .write, .core⟩
  | .rolZp _ => ⟨0x26, .ROL, .zeroPage, 5, .none, .core⟩
  | .rolAcc => ⟨0x2A, .ROL, .implicit, 2, .none, .core⟩
  | .rolAbs _ => ⟨0x2E, .ROL, .absolute, 6, .none, .core⟩
  | .rolZpx _ => ⟨0x36, .ROL, .zeroPageX, 6, .none, .core⟩
  | .rolAbx _ => ⟨0x3E, .ROL, .absoluteX, 7, .write, .core⟩
  | .rorZp _ => ⟨0x66, .ROR, .zeroPage, 5, .none, .core⟩
  | .rorAcc => ⟨0x6A, .ROR, .implicit, 2, .none, .core⟩
  | .rorAbs _ => ⟨0x6E, .ROR, .absolute, 6, .none, .core⟩
  | .rorZpx _ => ⟨0x76, .ROR, .zeroPageX, 6, .none, .core⟩
  | .rorAbx _ => ⟨0x7E, .ROR, .absoluteX, 7, .write, .core⟩
  | .oraIzx _ => ⟨0x01, .ORA, .preIndexed, 6, .none, .extNmos⟩
  | .oraZp _ => ⟨0x05, .ORA, .zeroPage, 3, .none, .extNmos⟩
  | .oraImm _ => ⟨0x09, .ORA, .immediate, 2, .none, .extNmos⟩
  | .oraAbs _ => ⟨0x0D, .ORA, .absolute, 4, .none, .extNmos⟩
  | .oraIzy _ => ⟨0x11, .ORA, .postIndexed, 5, .read, .extNmos⟩
  | .oraZpx _ => ⟨0x15, .ORA, .zeroPageX, 4, .none, .extNmos⟩
  | .oraAby _ => ⟨0x19, .ORA, .absoluteY, 4, .read, .extNmos⟩
  | .oraAbx _ => ⟨0x1D, .ORA, .absoluteX, 4, .read, .extNmos⟩
  | .andIzx _ => ⟨0x21, .AND, .preIndexed, 6, .none, .extNmos⟩
  | .andZp _ => ⟨0x25, .AND, .zeroPage, 3, .none, .extNmos⟩
  | .andImm _ => ⟨0x29, .AND, .immediate, 2, .none, .extNmos⟩
  | .andAbs _ => ⟨0x2D, .AND, .absolute, 4, .none, .extNmos⟩
  | .andIzy _ => ⟨0x31, .AND, .postIndexed, 5, .read, .extNmos⟩
  | .andZpx _ => ⟨0x35, .AND, .zeroPageX, 4, .none, .extNmos⟩
  | .andAby _ => ⟨0x39, .AND, .absoluteY, 4, .read, .extNmos⟩
  | .andAbx _ => ⟨0x3D, .AND, .absoluteX, 4, .read, .extNmos⟩
  | .eorIzx _ => ⟨0x41, .EOR, .preIndexed, 6, .none, .extNmos⟩
  | .eorZp _ => ⟨0x45, .EOR, .zeroPage, 3, .none, .extNmos⟩
  | .eorImm _ => ⟨0x49, .EOR, .immediate, 2, .none, .extNmos⟩
  | .eorAbs _ => ⟨0x4D, .EOR, .absolute, 4, .none, .extNmos⟩
  | .eorIzy _ => ⟨0x51, .EOR, .postIndexed, 5, .read, .extNmos⟩
  | .eorZpx _ => ⟨0x55, .EOR, .zeroPageX, 4, .none, .extNmos⟩
  | .eorAby _ => ⟨0x59, .EOR, .absoluteY, 4, .read, .extNmos⟩
  | .eorAbx _ => ⟨0x5D, .EOR, .absoluteX, 4, .read, .extNmos⟩
  | .bitZp _ => ⟨0x24, .BIT, .zeroPage, 3, .none, .extNmos⟩
  | .bitAbs _ => ⟨0x2C, .BIT, .absolute, 4, .none, .extNmos⟩
  | .cmpIzx _ => ⟨0xC1, .CMP, .preIndexed, 6, .none, .extNmos⟩
  | .cmpZp _ => ⟨0xC5, .CMP, .zeroPage, 3, .none, .extNmos⟩
  | .cmpImm _ => ⟨0xC9, .CMP, .immediate, 2, .none, .extNmos⟩
  | .cmpAbs _ => ⟨0xCD, .CMP, .absolute, 4, .none, .extNmos⟩
  | .cmpIzy _ => ⟨0xD1, .CMP, .postIndexed, 5, .read, .extNmos⟩
  | .cmpZpx _ => ⟨0xD5, .CMP, .zeroPageX, 4, .none, .extNmos⟩
  | .cmpAby _ => ⟨0xD9, .CMP, .absoluteY, 4, .read, .extNmos⟩
  | .cmpAbx _ => ⟨0xDD, .CMP, .absoluteX, 4, .read, .extNmos⟩
  | .cpxImm _ => ⟨0xE0, .CPX, .immediate, 2, .none, .extNmos⟩
  | .cpxZp _ => ⟨0xE4, .CPX, .zeroPage, 3, .none, .extNmos⟩
  | .cpxAbs _ => ⟨0xEC, .CPX, .absolute, 4, .none, .extNmos⟩
  | .cpyImm _ => ⟨0xC0, .CPY, .immediate, 2, .none, .extNmos⟩
  | .cpyZp _ => ⟨0xC4, .CPY, .zeroPage, 3, .none, .extNmos⟩
  | .cpyAbs _ => ⟨0xCC, .CPY, .absolute, 4, .none, .extNmos⟩
  | .jmpAbs _ => ⟨0x4C, .JMP, .absolute, 3, .none, .extNmos⟩
  | .jmpInd _ => ⟨0x6C, .JMP, .indirect, 5, .none, .extNmos⟩
  | .jsr _ => ⟨0x20, .JSR, .absolute, 6, .none, .extNmos⟩
  | .rts => ⟨0x60, .RTS, .implicit, 6, .none, .extNmos⟩
  | .rti => ⟨0x40, .RTI, .implicit, 6, .none, .extNmos⟩
  | .nop => ⟨0xEA, .NOP, .implicit, 2, .none, .extNmos⟩

/-- The operand that an instruction carries. -/
def Instr.operand : Instr → Operand
  | .ldaIzx z => .memory (.preIndexed z)
  | .ldaZp z => .memory (.zeroPage z)
  | .ldaImm v => .immediate v
  | .ldaAbs w => .memory (.absolute w)
  | .ldaIzy z => .memory (.postIndexed z)
  | .ldaZpx z => .memory (.zeroPageX z)
  | .ldaAby w => .memory (.absoluteY w)
  | .ldaAbx w => .memory (.absoluteX w)
  | .ldxImm v => .immediate v
  | .ldxZp z => .memory (.zeroPage z)
  | .ldxAbs w => .memory (.absolute w)
  | .ldxZpy z => .memory (.zeroPageY z)
  | .ldxAby w => .memory (.absoluteY w)
  | .ldyImm v => .immediate v
  | .ldyZp z => .memory (.zeroPage z)
  | .ldyAbs w => .memory (.absolute w)
  | .ldyZpx z => .memory (.zeroPageX z)
  | .ldyAbx w => .memory (.absoluteX w)
  | .staIzx z => .memory (.preIndexed z)
  | .staZp z => .memory (.zeroPage z)
  | .staAbs w => .memory (.absolute w)
  | .staIzy z => .memory (.postIndexed z)
  | .staZpx z => .memory (.zeroPageX z)
  | .staAby w => .memory (.absoluteY w)
  | .staAbx w => .memory (.absoluteX w)
  | .stxZp z => .memory (.zeroPage z)
  | .stxAbs w => .memory (.absolute w)
  | .stxZpy z => .memory (.zeroPageY z)
  | .styZp z => .memory (.zeroPage z)
  | .styAbs w => .memory (.absolute w)
  | .styZpx z => .memory (.zeroPageX z)
  | .incZp z => .memory (.zeroPage z)
  | .incAbs w => .memory (.absolute w)
  | .incZpx z => .memory (.zeroPageX z)
  | .incAbx w => .memory (.absoluteX w)
  | .decZp z => .memory (.zeroPage z)
  | .decAbs w => .memory (.absolute w)
  | .decZpx z => .memory (.zeroPageX z)
  | .decAbx w => .memory (.absoluteX w)
  | .inx => .implicit
  | .iny => .implicit
  | .dex => .implicit
  | .dey => .implicit
  | .tax => .implicit
  | .tay => .implicit
  | .txa => .implicit
  | .tya => .implicit
  | .tsx => .implicit
  | .txs => .implicit
  | .clc => .implicit
  | .sec => .implicit
  | .cli => .implicit
  | .sei => .implicit
  | .cld => .implicit
  | .sed => .implicit
  | .clv => .implicit
  | .pha => .implicit
  | .php => .implicit
  | .pla => .implicit
  | .plp => .implicit
  | .bpl d => .relative d
  | .bmi d => .relative d
  | .bvc d => .relative d
  | .bvs d => .relative d
  | .bcc d => .relative d
  | .bcs d => .relative d
  | .bne d => .relative d
  | .beq d => .relative d
  | .brk => .implicit
  | .adcIzx z => .memory (.preIndexed z)
  | .adcZp z => .memory (.zeroPage z)
  | .adcImm v => .immediate v
  | .adcAbs w => .memory (.absolute w)
  | .adcIzy z => .memory (.postIndexed z)
  | .adcZpx z => .memory (.zeroPageX z)
  | .adcAby w => .memory (.absoluteY w)
  | .adcAbx w => .memory (.absoluteX w)
  | .sbcIzx z => .memory (.preIndexed z)
  | .sbcZp z => .memory (.zeroPage z)
  | .sbcImm v => .immediate v
  | .sbcAbs w => .memory (.absolute w)
  | .sbcIzy z => .memory (.postIndexed z)
  | .sbcZpx z => .memory (.zeroPageX z)
  | .sbcAby w => .memory (.absoluteY w)
  | .sbcAbx w => .memory (.absoluteX w)
  | .aslZp z => .memory (.zeroPage z)
  | .aslAcc => .implicit
  | .aslAbs w => .memory (.absolute w)
  | .aslZpx z => .memory (.zeroPageX z)
  | .aslAbx w => .memory (.absoluteX w)
  | .lsrZp z => .memory (.zeroPage z)
  | .lsrAcc => .implicit
  | .lsrAbs w => .memory (.absolute w)
  | .lsrZpx z => .memory (.zeroPageX z)
  | .lsrAbx w => .memory (.absoluteX w)
  | .rolZp z => .memory (.zeroPage z)
  | .rolAcc => .implicit
  | .rolAbs w => .memory (.absolute w)
  | .rolZpx z => .memory (.zeroPageX z)
  | .rolAbx w => .memory (.absoluteX w)
  | .rorZp z => .memory (.zeroPage z)
  | .rorAcc => .implicit
  | .rorAbs w => .memory (.absolute w)
  | .rorZpx z => .memory (.zeroPageX z)
  | .rorAbx w => .memory (.absoluteX w)
  | .oraIzx z => .memory (.preIndexed z)
  | .oraZp z => .memory (.zeroPage z)
  | .oraImm v => .immediate v
  | .oraAbs w => .memory (.absolute w)
  | .oraIzy z => .memory (.postIndexed z)
  | .oraZpx z => .memory (.zeroPageX z)
  | .oraAby w => .memory (.absoluteY w)
  | .oraAbx w => .memory (.absoluteX w)
  | .andIzx z => .memory (.preIndexed z)
  | .andZp z => .memory (.zeroPage z)
  | .andImm v => .immediate v
  | .andAbs w => .memory (.absolute w)
  | .andIzy z => .memory (.postIndexed z)
  | .andZpx z => .memory (.zeroPageX z)
  | .andAby w => .memory (.absoluteY w)
  | .andAbx w => .memory (.absoluteX w)
  | .eorIzx z => .memory (.preIndexed z)
  | .eorZp z => .memory (.zeroPage z)
  | .eorImm v => .immediate v
  | .eorAbs w => .memory (.absolute w)
  | .eorIzy z => .memory (.postIndexed z)
  | .eorZpx z => .memory (.zeroPageX z)
  | .eorAby w => .memory (.absoluteY w)
  | .eorAbx w => .memory (.absoluteX w)
  | .bitZp z => .memory (.zeroPage z)
  | .bitAbs w => .memory (.absolute w)
  | .cmpIzx z => .memory (.preIndexed z)
  | .cmpZp z => .memory (.zeroPage z)
  | .cmpImm v => .immediate v
  | .cmpAbs w => .memory (.absolute w)
  | .cmpIzy z => .memory (.postIndexed z)
  | .cmpZpx z => .memory (.zeroPageX z)
  | .cmpAby w => .memory (.absoluteY w)
  | .cmpAbx w => .memory (.absoluteX w)
  | .cpxImm v => .immediate v
  | .cpxZp z => .memory (.zeroPage z)
  | .cpxAbs w => .memory (.absolute w)
  | .cpyImm v => .immediate v
  | .cpyZp z => .memory (.zeroPage z)
  | .cpyAbs w => .memory (.absolute w)
  | .jmpAbs w => .memory (.absolute w)
  | .jmpInd p => .indirect p
  | .jsr w => .memory (.absolute w)
  | .rts => .implicit
  | .rti => .implicit
  | .nop => .implicit

/-- The mode of an operand form. -/
def MemForm.mode : MemForm → Mode
  | .zeroPage _ => .zeroPage
  | .zeroPageX _ => .zeroPageX
  | .zeroPageY _ => .zeroPageY
  | .absolute _ => .absolute
  | .absoluteX _ => .absoluteX
  | .absoluteY _ => .absoluteY
  | .preIndexed _ => .preIndexed
  | .postIndexed _ => .postIndexed

/-- The mode of an operand. -/
def Operand.mode : Operand → Mode
  | .implicit => .implicit
  | .immediate _ => .immediate
  | .memory f => f.mode
  | .indirect _ => .indirect
  | .relative _ => .relative

/-- The source that a reading instruction reads, for the operands that are one (R61). -/
def Operand.source? : Operand → Option Source
  | .immediate v => some (.immediate v)
  | .memory f => some (.memory f)
  | _ => none

/-- The operand bytes of a memory form: one byte, or a word with its low byte first (R47, R70). -/
def MemForm.bytes : MemForm → List Byte
  | .zeroPage z | .zeroPageX z | .zeroPageY z | .preIndexed z | .postIndexed z => [z]
  | .absolute w | .absoluteX w | .absoluteY w => [lo w, hi w]

/-- The operand bytes of an instruction (R70). -/
def Operand.bytes : Operand → List Byte
  | .implicit => []
  | .immediate v => [v]
  | .memory f => f.bytes
  | .indirect p => [lo p, hi p]
  | .relative d => [d]

/-- An opcode's instruction, waiting for the operand bytes of its format F1, F2 or F3 (R70). -/
inductive Form where
  | implied (i : Instr)
  | byte (mk : Byte → Instr)
  | word (mk : Word → Instr)

/-- The opcode table, read by opcode byte: all 151 entries (R74, R75); every other byte is Invalid (R76). -/
def opcodeForm (op : Byte) : Option Form :=
  match op.toNat with
  | 0x00 => some (.implied .brk)
  | 0x01 => some (.byte .oraIzx)
  | 0x05 => some (.byte .oraZp)
  | 0x06 => some (.byte .aslZp)
  | 0x08 => some (.implied .php)
  | 0x09 => some (.byte .oraImm)
  | 0x0A => some (.implied .aslAcc)
  | 0x0D => some (.word .oraAbs)
  | 0x0E => some (.word .aslAbs)
  | 0x10 => some (.byte .bpl)
  | 0x11 => some (.byte .oraIzy)
  | 0x15 => some (.byte .oraZpx)
  | 0x16 => some (.byte .aslZpx)
  | 0x18 => some (.implied .clc)
  | 0x19 => some (.word .oraAby)
  | 0x1D => some (.word .oraAbx)
  | 0x1E => some (.word .aslAbx)
  | 0x20 => some (.word .jsr)
  | 0x21 => some (.byte .andIzx)
  | 0x24 => some (.byte .bitZp)
  | 0x25 => some (.byte .andZp)
  | 0x26 => some (.byte .rolZp)
  | 0x28 => some (.implied .plp)
  | 0x29 => some (.byte .andImm)
  | 0x2A => some (.implied .rolAcc)
  | 0x2C => some (.word .bitAbs)
  | 0x2D => some (.word .andAbs)
  | 0x2E => some (.word .rolAbs)
  | 0x30 => some (.byte .bmi)
  | 0x31 => some (.byte .andIzy)
  | 0x35 => some (.byte .andZpx)
  | 0x36 => some (.byte .rolZpx)
  | 0x38 => some (.implied .sec)
  | 0x39 => some (.word .andAby)
  | 0x3D => some (.word .andAbx)
  | 0x3E => some (.word .rolAbx)
  | 0x40 => some (.implied .rti)
  | 0x41 => some (.byte .eorIzx)
  | 0x45 => some (.byte .eorZp)
  | 0x46 => some (.byte .lsrZp)
  | 0x48 => some (.implied .pha)
  | 0x49 => some (.byte .eorImm)
  | 0x4A => some (.implied .lsrAcc)
  | 0x4C => some (.word .jmpAbs)
  | 0x4D => some (.word .eorAbs)
  | 0x4E => some (.word .lsrAbs)
  | 0x50 => some (.byte .bvc)
  | 0x51 => some (.byte .eorIzy)
  | 0x55 => some (.byte .eorZpx)
  | 0x56 => some (.byte .lsrZpx)
  | 0x58 => some (.implied .cli)
  | 0x59 => some (.word .eorAby)
  | 0x5D => some (.word .eorAbx)
  | 0x5E => some (.word .lsrAbx)
  | 0x60 => some (.implied .rts)
  | 0x61 => some (.byte .adcIzx)
  | 0x65 => some (.byte .adcZp)
  | 0x66 => some (.byte .rorZp)
  | 0x68 => some (.implied .pla)
  | 0x69 => some (.byte .adcImm)
  | 0x6A => some (.implied .rorAcc)
  | 0x6C => some (.word .jmpInd)
  | 0x6D => some (.word .adcAbs)
  | 0x6E => some (.word .rorAbs)
  | 0x70 => some (.byte .bvs)
  | 0x71 => some (.byte .adcIzy)
  | 0x75 => some (.byte .adcZpx)
  | 0x76 => some (.byte .rorZpx)
  | 0x78 => some (.implied .sei)
  | 0x79 => some (.word .adcAby)
  | 0x7D => some (.word .adcAbx)
  | 0x7E => some (.word .rorAbx)
  | 0x81 => some (.byte .staIzx)
  | 0x84 => some (.byte .styZp)
  | 0x85 => some (.byte .staZp)
  | 0x86 => some (.byte .stxZp)
  | 0x88 => some (.implied .dey)
  | 0x8A => some (.implied .txa)
  | 0x8C => some (.word .styAbs)
  | 0x8D => some (.word .staAbs)
  | 0x8E => some (.word .stxAbs)
  | 0x90 => some (.byte .bcc)
  | 0x91 => some (.byte .staIzy)
  | 0x94 => some (.byte .styZpx)
  | 0x95 => some (.byte .staZpx)
  | 0x96 => some (.byte .stxZpy)
  | 0x98 => some (.implied .tya)
  | 0x99 => some (.word .staAby)
  | 0x9A => some (.implied .txs)
  | 0x9D => some (.word .staAbx)
  | 0xA0 => some (.byte .ldyImm)
  | 0xA1 => some (.byte .ldaIzx)
  | 0xA2 => some (.byte .ldxImm)
  | 0xA4 => some (.byte .ldyZp)
  | 0xA5 => some (.byte .ldaZp)
  | 0xA6 => some (.byte .ldxZp)
  | 0xA8 => some (.implied .tay)
  | 0xA9 => some (.byte .ldaImm)
  | 0xAA => some (.implied .tax)
  | 0xAC => some (.word .ldyAbs)
  | 0xAD => some (.word .ldaAbs)
  | 0xAE => some (.word .ldxAbs)
  | 0xB0 => some (.byte .bcs)
  | 0xB1 => some (.byte .ldaIzy)
  | 0xB4 => some (.byte .ldyZpx)
  | 0xB5 => some (.byte .ldaZpx)
  | 0xB6 => some (.byte .ldxZpy)
  | 0xB8 => some (.implied .clv)
  | 0xB9 => some (.word .ldaAby)
  | 0xBA => some (.implied .tsx)
  | 0xBC => some (.word .ldyAbx)
  | 0xBD => some (.word .ldaAbx)
  | 0xBE => some (.word .ldxAby)
  | 0xC0 => some (.byte .cpyImm)
  | 0xC1 => some (.byte .cmpIzx)
  | 0xC4 => some (.byte .cpyZp)
  | 0xC5 => some (.byte .cmpZp)
  | 0xC6 => some (.byte .decZp)
  | 0xC8 => some (.implied .iny)
  | 0xC9 => some (.byte .cmpImm)
  | 0xCA => some (.implied .dex)
  | 0xCC => some (.word .cpyAbs)
  | 0xCD => some (.word .cmpAbs)
  | 0xCE => some (.word .decAbs)
  | 0xD0 => some (.byte .bne)
  | 0xD1 => some (.byte .cmpIzy)
  | 0xD5 => some (.byte .cmpZpx)
  | 0xD6 => some (.byte .decZpx)
  | 0xD8 => some (.implied .cld)
  | 0xD9 => some (.word .cmpAby)
  | 0xDD => some (.word .cmpAbx)
  | 0xDE => some (.word .decAbx)
  | 0xE0 => some (.byte .cpxImm)
  | 0xE1 => some (.byte .sbcIzx)
  | 0xE4 => some (.byte .cpxZp)
  | 0xE5 => some (.byte .sbcZp)
  | 0xE6 => some (.byte .incZp)
  | 0xE8 => some (.implied .inx)
  | 0xE9 => some (.byte .sbcImm)
  | 0xEA => some (.implied .nop)
  | 0xEC => some (.word .cpxAbs)
  | 0xED => some (.word .sbcAbs)
  | 0xEE => some (.word .incAbs)
  | 0xF0 => some (.byte .beq)
  | 0xF1 => some (.byte .sbcIzy)
  | 0xF5 => some (.byte .sbcZpx)
  | 0xF6 => some (.byte .incZpx)
  | 0xF8 => some (.implied .sed)
  | 0xF9 => some (.word .sbcAby)
  | 0xFD => some (.word .sbcAbx)
  | 0xFE => some (.word .incAbx)
  | _ => none

/-- The entry of an opcode's form; no entry depends on the operand. -/
def Form.entry : Form → Entry
  | .implied i => i.entry
  | .byte mk => (mk 0).entry
  | .word mk => (mk 0).entry

/-- Is the entry in the table under this value of `EXT_NMOS` (R75). -/
def Entry.present (e : Entry) (ext : Bool) : Bool := ext || e.set == .core

/-- `Table[op]` (R79): the entry of an opcode byte under `EXT_NMOS`, or none where it is Invalid (R74 to R76). -/
def lookup (ext : Bool) (op : Byte) : Option Entry :=
  match opcodeForm op with
  | none => none
  | some f => if f.entry.present ext then some f.entry else none

/-- Why bytes decode to no instruction. -/
inductive Reject where
  /-- There is no byte to decode. -/
  | noBytes
  /-- The opcode byte has no entry (R76). -/
  | invalidOpcode (op : Byte)
  /-- The bytes end before the operand does. -/
  | truncated (op : Byte)
  deriving DecidableEq, Repr

/-- The instruction at the head of the bytes and the bytes after it; the length depends on the opcode alone (R77). -/
def decode (ext : Bool) : List Byte → Except Reject (Instr × List Byte)
  | [] => .error .noBytes
  | op :: rest =>
    match opcodeForm op with
    | none => .error (.invalidOpcode op)
    | some f =>
      if f.entry.present ext then
        match f, rest with
        | .implied i, rest => .ok (i, rest)
        | .byte mk, b1 :: rest => .ok (mk b1, rest)
        | .word mk, b1 :: b2 :: rest => .ok (mk (mkWord b2 b1), rest)
        | _, _ => .error (.truncated op)
      else .error (.invalidOpcode op)

/-- The bytes of an instruction: the opcode, then the operand bytes (R70). -/
def encode (i : Instr) : List Byte := i.entry.opcode :: i.operand.bytes

/-- Byte `k` of a number, from its least significant byte up. -/
def byteOf (w k : Nat) : Byte := BitVec.ofNat 8 (w / 256 ^ k)

/-- The three bytes, in memory order, of a table word of `nbits` bits; the bits above are 0. -/
def tableBytes (nbits w : Nat) : List Byte :=
  let v := w % 2 ^ nbits
  [byteOf v 0, byteOf v 1, byteOf v 2]

/-- The instruction that the decoder reads from a table word, with the whole table present (`EXT_NMOS` true). -/
def decodeTableWord (nbits w : Nat) : Option Instr :=
  match decode true (tableBytes nbits w) with
  | .ok (i, _) => some i
  | .error _ => none

end Sys2Proof
end

