-- ==== Sys2Proof/Machine/Memory.lean ====
section
/-! DEFINITION. The memory of rules R40 to R45 as a sparse list of cells in one canonical form: addresses strictly
rising, all below 65536, and no cell that holds what an unlisted address reads as. -/

namespace Sys2Proof.Machine

/-- Address and byte pairs (R41: the memory is a total map; an unlisted address reads `unlistedByte`). -/
abbrev Memory := List Host.Cell

/-- What an address that no cell lists reads as: a hard reset zeroes all memory (R400). -/
def unlistedByte : Byte := 0x00

/-- The byte at an address (R42). -/
def Memory.byteAt : Memory → Nat → Byte
  | [], _ => unlistedByte
  | (b, w) :: m, a => if a = b then w else Memory.byteAt m a

/-- The memory with one byte written (R43), kept in canonical form: writing `unlistedByte` removes the cell. -/
def Memory.setByte : Memory → Nat → Byte → Memory
  | [], a, v => if v = unlistedByte then [] else [(a, v)]
  | (b, w) :: m, a, v =>
    if a < b then (if v = unlistedByte then (b, w) :: m else (a, v) :: (b, w) :: m)
    else if a = b then (if v = unlistedByte then m else (a, v) :: m)
    else (b, w) :: Memory.setByte m a v

/-- Canonical form of the cells from address `n` on. -/
def Memory.wfFrom : Nat → Memory → Bool
  | _, [] => true
  | n, (a, v) :: m => decide (n ≤ a) && decide (a < 65536) && (v != unlistedByte) && Memory.wfFrom (a + 1) m

/-- The canonical form of memory. -/
def Memory.wf (m : Memory) : Bool := Memory.wfFrom 0 m

/-- `peekByte` on a memory (R42). -/
def Memory.peek (m : Memory) (a : Word) : Byte := m.byteAt a.toNat

/-- `pokeByte` on a memory (R43). -/
def Memory.poke (m : Memory) (a : Word) (v : Byte) : Memory := m.setByte a.toNat v

/-- `peekWord`: little-endian, the second address wrapping modulo 65536 (R44). -/
def Memory.peekWord (m : Memory) (a : Word) : Word := mkWord (m.peek (a + 1)) (m.peek a)

/-- `pokeWord`: the low byte at the address, then the high byte at the next (R45). -/
def Memory.pokeWord (m : Memory) (a : Word) (w : Word) : Memory := (m.poke a (lo w)).poke (a + 1) (hi w)

end Sys2Proof.Machine
end

