-- ==== Sys2Proof/Machine/Defaults.lean ====
section
/-! DEFINITION. What `State.reset` is built from: the default of each parameter of rule R8, the launch's reset
address, the fixed vector addresses of rule R51 and the memory a hard reset leaves (R400). -/

namespace Sys2Proof.Machine

/-- The default column of R8's table. -/
def defaultParams : Params where
  extNmos := false
  decimalMode := .binary
  branchBaseOffset := .zero
  brkPushOffset := .one
  penaltyOnWrite := true
  zpPtrWrap := false
  jmpIndPageBug := false
  cycWidth := 64

/-- The argument of `hardReset` behind `State.reset`. DESIGN CHOICE (assumption 2): the base state of
95_test_vectors.md, `hardReset(0x0200)`. -/
def defaultResetAddr : Word := 0x0200

/-- The non-maskable-interrupt vector (R51); nothing in this block reads it (R307). -/
def nmiVector : Word := 0xFFFA

/-- The reset vector (R51). -/
def resetVector : Word := 0xFFFC

/-- The interrupt-request vector, read by BRK (R51, R160). -/
def irqVector : Word := 0xFFFE

/-- The memory after `hardReset(resetAddr)`: all zero but for the reset vector (R400). -/
def resetMemory (resetAddr : Word) : Memory := Memory.pokeWord [] resetVector resetAddr

/-- SP after either reset (R400, R401). -/
def resetSp : Byte := 0xFF

end Sys2Proof.Machine
end

