-- ==== Sys2Proof/Machine/State.lean ====
section
/-! DEFINITION. The state of rules R20 and R22, whole and as plain data, why a step can stop, and the state right
after the hard reset. -/

namespace Sys2Proof.Machine

/-- Why a step stops with a fault. -/
inductive Fault where
  /-- Raised by the step engine alone, when the byte at PC has no entry in the opcode table (R300, R301). It carries
  that byte and its address, and the state stays as it was (R302). Safe: the block itself does no more than report it. -/
  | decodeError (opcode : Byte) (addr : Word)
  deriving DecidableEq, Repr

/-- Why the model gives a call no meaning. -/
inductive Refusal where
  /-- An instruction whose arm of `exec` is not written yet; no arm answers with it in this model. Safe. -/
  | notModelled (mnemonic : String)
  /-- Raised by ADC and SBC while Flags.D is 1 and `DECIMAL_MODE` is `refuse` (R173, R319). Safe: nothing is claimed. -/
  | decimalMode
  /-- Raised by a host call other than `hardReset` before the first hard reset, never by `step` (R403). Safe. -/
  | beforeHardReset
  deriving DecidableEq, Repr

/-- Everything the block holds (R20), and the parameters it was built with (R8). -/
structure State where
  /-- The accumulator (R23). -/
  a : Byte
  /-- Index register X (R23). -/
  x : Byte
  /-- Index register Y (R23). -/
  y : Byte
  /-- The stack pointer; the stack byte it names is at 0x0100 + SP (R24). -/
  sp : Byte
  /-- The program counter: the address of the next instruction's opcode byte (R25). -/
  pc : Word
  /-- The status register: from bit 0 up, C Z I D B U V N (R26, R29). -/
  flags : Byte
  /-- The memory of 65536 bytes (R41). -/
  mem : Memory
  /-- The cycle counter CYC, a number below 2^CYC_WIDTH (R27). -/
  cyc : Nat
  /-- The parameters; configuration that no step changes (R21, R73; assumption 1). -/
  cfg : Params
  deriving DecidableEq, Repr

/-- The 8-bit registers, by name (R12, R30). -/
inductive Reg8 where
  | a
  | x
  | y
  | sp
  | flags
  deriving DecidableEq, Repr

/-- The machine right after `hardReset(0x0200)` with the default parameters (R22, R400). -/
def State.reset : State where
  a := 0x00
  x := 0x00
  y := 0x00
  sp := resetSp
  pc := (resetMemory defaultResetAddr).peekWord resetVector
  flags := 0x00
  mem := resetMemory defaultResetAddr
  cyc := 0
  cfg := defaultParams

/-- What a meaning and a step answer. -/
abbrev Result := Host.Outcome State Fault Refusal

end Sys2Proof.Machine
end

