-- ==== Sys2Proof/Machine/Flags.lean ====
section
/-! DEFINITION. The Flags register's bits (R26, R31), Zero and Negative (R28), the adder (R170), the compare (R201),
the shifts (R180 to R183) and the flags a pull restores (R143). -/

namespace Sys2Proof.Machine

/-- Carry, bit 0 (R26). -/
def maskC : Byte := 0x01
/-- Zero, bit 1 (R26). -/
def maskZ : Byte := 0x02
/-- IRQ-Disable, bit 2 (R26). -/
def maskI : Byte := 0x04
/-- Decimal, bit 3 (R26). -/
def maskD : Byte := 0x08
/-- Break, bit 4 (R26). -/
def maskB : Byte := 0x10
/-- The unused bit, bit 5 (R26). -/
def maskU : Byte := 0x20
/-- Overflow, bit 6 (R26). -/
def maskV : Byte := 0x40
/-- Negative, bit 7 (R26). -/
def maskN : Byte := 0x80

/-- `FlagGet(m)`: is any bit of the mask set (R31). -/
def flagGet (m f : Byte) : Bool := (f &&& m) != 0x00

/-- `FlagSet(m, v)`: set or clear every bit of the mask (R31). -/
def flagSet (m : Byte) (v : Bool) (f : Byte) : Byte := if v then f ||| m else f &&& ~~~m

/-- `SetZN(v)`: Zero and Negative from a result byte (R28). -/
def setZN (v f : Byte) : Byte := flagSet maskN v.msb (flagSet maskZ (v == 0x00) f)

/-- What the adder answers (R170). -/
structure AdderOut where
  result : Byte
  carry : Bool
  overflow : Bool
  deriving DecidableEq, Repr

/-- `AddWithCarry(a, m, c)` (R170): the exact sum, cut to 8 bits; Carry is its bit 8; Overflow says that the sign of the
result is inconsistent with the operands' equal signs. -/
def addWithCarry (a m : Byte) (c : Bool) : AdderOut :=
  let s := a.toNat + m.toNat + c.toNat
  let r := BitVec.ofNat 8 s
  { result := r, carry := s.testBit 8, overflow := (~~~(a ^^^ m) &&& (a ^^^ r)).msb }

/-- The flags ADC and SBC leave: C, V, Z and N from the adder (R171, R172). -/
def setAdderFlags (o : AdderOut) (f : Byte) : Byte :=
  setZN o.result (flagSet maskV o.overflow (flagSet maskC o.carry f))

/-- `Compare(reg, m)`: C, Z and N of reg - m; V unchanged (R201). -/
def compareFlags (reg m f : Byte) : Byte :=
  let o := addWithCarry reg (~~~m) true
  setZN o.result (flagSet maskC o.carry f)

/-- BIT: Z from `A and m`, N and V from bits 7 and 6 of memory (R205). -/
def bitFlags (a m f : Byte) : Byte :=
  flagSet maskV (m.getLsbD 6) (flagSet maskN (m.getLsbD 7) (flagSet maskZ ((a &&& m) == 0x00) f))

/-- ASL's byte function: the shifted byte and the flags with the new Carry (R180). -/
def aslByte (v f : Byte) : Byte × Byte := (v <<< 1, flagSet maskC (v.getLsbD 7) f)

/-- LSR's byte function (R181). -/
def lsrByte (v f : Byte) : Byte × Byte := (v >>> 1, flagSet maskC (v.getLsbD 0) f)

/-- ROL's byte function: bit 0 gets the old Carry (R182). -/
def rolByte (v f : Byte) : Byte × Byte :=
  ((v <<< 1) ||| (if flagGet maskC f then 0x01 else 0x00), flagSet maskC (v.getLsbD 7) f)

/-- ROR's byte function: bit 7 gets the old Carry (R183). -/
def rorByte (v f : Byte) : Byte × Byte :=
  ((v >>> 1) ||| (if flagGet maskC f then 0x80 else 0x00), flagSet maskC (v.getLsbD 0) f)

/-- INC's byte function; no flag (R110). -/
def incByte (v f : Byte) : Byte × Byte := (v + 1, f)

/-- DEC's byte function; no flag (R111). -/
def decByte (v f : Byte) : Byte × Byte := (v - 1, f)

/-- The Flags that PLP and RTI load from a pulled byte: Break forced to 0, every other bit taken from it (R143, R212). -/
def restoredFlags (v : Byte) : Byte := v &&& 0xEF

/-- The byte that BRK pushes for Flags: Break forced to 1 in the copy (R160). -/
def pushedBreakFlags (f : Byte) : Byte := f ||| maskB

end Sys2Proof.Machine
end

