-- ==== Sys2Proof/Machine/Ops.lean ====
section
/-! DEFINITION. The named operations over registers, memory, the stack and the cycle counter (R42 to R45, R64 to R66,
R27), the epilogue of a step (R79), and taking and leaving the block's one trap (R160, R212, R309). -/

namespace Sys2Proof.Machine

/-- Read a register by name (R12). -/
def State.reg (s : State) : Reg8 → Byte
  | .a => s.a
  | .x => s.x
  | .y => s.y
  | .sp => s.sp
  | .flags => s.flags

/-- Write a register by name (R12). -/
def State.setReg (s : State) (r : Reg8) (v : Byte) : State :=
  match r with
  | .a => { s with a := v }
  | .x => { s with x := v }
  | .y => { s with y := v }
  | .sp => { s with sp := v }
  | .flags => { s with flags := v }

/-- Write the Flags register whole. -/
def State.setFlags (s : State) (f : Byte) : State := { s with flags := f }

/-- Write PC: a control transfer, or the host's edit (R12, R30). -/
def State.setPc (s : State) (w : Word) : State := { s with pc := w }

/-- `MemRead(a, 1)` (R42). -/
def State.peek (s : State) (a : Word) : Byte := s.mem.peek a

/-- `MemRead(a, 2)` (R44). -/
def State.peekWord (s : State) (a : Word) : Word := s.mem.peekWord a

/-- `MemWrite(a, 1, v)` (R43). -/
def State.poke (s : State) (a : Word) (v : Byte) : State := { s with mem := s.mem.poke a v }

/-- `MemWrite(a, 2, w)` (R45). -/
def State.pokeWord (s : State) (a : Word) (w : Word) : State := { s with mem := s.mem.pokeWord a w }

/-- The address of the stack byte that a value of SP names (R24). -/
def stackAddr (sp : Byte) : Word := 0x0100 + sp.setWidth 16

/-- `Push(v)` (R64). -/
def State.push (s : State) (v : Byte) : State := { s.poke (stackAddr s.sp) v with sp := s.sp - 1 }

/-- The byte `Pull()` returns: SP is incremented first (R65). -/
def State.pulled (s : State) : Byte := s.peek (stackAddr (s.sp + 1))

/-- The state `Pull()` leaves; the byte stays in memory (R65). -/
def State.pull (s : State) : State := { s with sp := s.sp + 1 }

/-- `Push16(w)`: the high byte first (R66). -/
def State.push16 (s : State) (w : Word) : State := (s.push (hi w)).push (lo w)

/-- The word `Pull16()` returns: the low byte first (R66). -/
def State.pulled16 (s : State) : Word := mkWord s.pull.pulled s.pulled

/-- The state `Pull16()` leaves (R66). -/
def State.pull16 (s : State) : State := s.pull.pull

/-- CYC after a step of this cost (R27, R313). -/
def State.addCost (s : State) (cost : Nat) : State := { s with cyc := (s.cyc + cost) % 2 ^ s.cfg.cycWidth }

/-- The address of the instruction after the one of length `n` at PC (R25). -/
def State.nextPc (s : State) (n : Nat) : Word := s.pc + BitVec.ofNat 16 n

/-- The epilogue of an executor that does not own PC: PC moves past the instruction and CYC grows by the base cycles and
the penalties (R79, R80). -/
def endStep (e : Entry) (penalty : Nat) (s : State) : Result :=
  .next ((s.setPc (s.nextPc e.length)).addCost (e.baseCycles + penalty))

/-- The epilogue of an executor that owns PC (R79). -/
def endStepAt (e : Entry) (penalty : Nat) (target : Word) (s : State) : Result :=
  .next ((s.setPc target).addCost (e.baseCycles + penalty))

/-- Trap entry (R160, R309): push the return address and the flags with Break forced high, set Flags.I, and read the new
PC from the interrupt-request vector, after the pushes (R69). -/
def takeTrap (s : State) : State :=
  let s1 := s.push16 (s.pc + s.cfg.brkPushOffset.toWord)
  let s2 := s1.push (pushedBreakFlags s1.flags)
  let s3 := s2.setFlags (flagSet maskI true s2.flags)
  s3.setPc (s3.peekWord irqVector)

/-- Trap return (R212, R310): pull the flags, then the return address, with no +1. -/
def returnFromTrap (s : State) : State :=
  let s1 := s.pull.setFlags (restoredFlags s.pulled)
  s1.pull16.setPc s1.pulled16

end Sys2Proof.Machine
end

