-- ==== Sys2Proof/Machine/Operands.lean ====
section
/-! DEFINITION. The addressing-mode resolvers (R53 to R60) with their page-crossing penalties (R61 to R63), the branch
target (R150) and the jump target (R209). The operand bytes were read from PC + 1 and PC + 2 by the fetch, before the
executor runs and from the same state (R50, R69). -/

namespace Sys2Proof.Machine

/-- `zext_16` (R11). -/
def zext16 (b : Byte) : Word := b.setWidth 16

/-- `sext_16` (R11). -/
def sext16 (b : Byte) : Word := b.signExtend 16

/-- `pagecross(base, result)`: the high bytes differ (R60). -/
def pageCross (base result : Word) : Bool := hi base != hi result

/-- `ZPWord(p)`: the pointer stored at a zero-page location; `ZP_PTR_WRAP` says where its high byte lies at 0xFF (R57). -/
def zpWord (s : State) (p : Byte) : Word :=
  if s.cfg.zpPtrWrap then mkWord (s.peek (zext16 (p + 1))) (s.peek (zext16 p)) else s.peekWord (zext16 p)

/-- The address to which a mode adds its last index, or the address itself where the mode has none (R53 to R58). -/
def baseAddress (f : MemForm) (s : State) : Word :=
  match f with
  | .zeroPage z => zext16 z
  | .zeroPageX z => zext16 (z + s.x)
  | .zeroPageY z => zext16 (z + s.y)
  | .absolute w => w
  | .absoluteX w => w
  | .absoluteY w => w
  | .preIndexed z => zpWord s (z + s.x)
  | .postIndexed z => zpWord s z

/-- The effective address, `ea` of `EA(mode)` (R53 to R58). -/
def effectiveAddress (f : MemForm) (s : State) : Word :=
  match f with
  | .absoluteX _ => baseAddress f s + zext16 s.x
  | .absoluteY _ => baseAddress f s + zext16 s.y
  | .postIndexed _ => baseAddress f s + zext16 s.y
  | _ => baseAddress f s

/-- Whether indexing crossed a page, `cross` of `EA(mode)`; false for a mode that adds no index to a 16-bit base (R56, R58). -/
def crosses (f : MemForm) (s : State) : Bool := pageCross (baseAddress f s) (effectiveAddress f s)

/-- The byte `ReadOperand(mode)` returns (R61). -/
def sourceByte (src : Source) (s : State) : Byte :=
  match src with
  | .immediate v => v
  | .memory f => s.peek (effectiveAddress f s)

/-- The cycles `ReadOperand(mode)` adds (R61). -/
def readPenalty (src : Source) (s : State) : Nat :=
  match src with
  | .immediate _ => 0
  | .memory f => (crosses f s).toNat

/-- The cycles `WriteOperand(mode, v)` and `RMW(mode, f)` add: only under `PENALTY_ON_WRITE` (R62, R63). -/
def writePenalty (f : MemForm) (s : State) : Nat := (crosses f s && s.cfg.penaltyOnWrite).toNat

/-- The address a branch adds its displacement to (R150). -/
def branchBase (s : State) : Word := s.pc + s.cfg.branchBaseOffset.toWord

/-- Where a taken branch goes (R150). -/
def branchTarget (d : Byte) (s : State) : Word := branchBase s + sext16 d

/-- The cycles a taken branch adds: one, and one more for a page cross between base and target (R150). -/
def takenPenalty (d : Byte) (s : State) : Nat := 1 + (pageCross (branchBase s) (branchTarget d s)).toNat

/-- Where JMP through a pointer goes; `JMP_IND_PAGE_BUG` keeps the pointer's high byte in its page (R209). -/
def indirectTarget (p : Word) (s : State) : Word :=
  if s.cfg.jmpIndPageBug && lo p == 0xFF then mkWord (s.peek (p &&& 0xFF00)) (s.peek p) else s.peekWord p

end Sys2Proof.Machine
end

