-- ==== Sys2Proof/Machine/Arith.lean ====
section
/-! DEFINITION. ADC and SBC (47_arith.md, R170 to R173). -/

namespace Sys2Proof.Machine

/-- `DecimalCheck()` refuses: `DECIMAL_MODE` is `refuse` and Flags.D is 1 (R173). -/
def decimalRefused (s : State) : Bool := s.cfg.decimalMode == .refuse && flagGet maskD s.flags

/-- A takes the adder's result for A, the byte `m` and the Carry; C, V, Z and N follow it. The refusal comes before any
write (R171 to R173). -/
def adderStep (m : Byte) (penalty : Nat) (e : Entry) (s : State) : Result :=
  if decimalRefused s then .refused .decimalMode
  else
    let o := addWithCarry s.a m (flagGet maskC s.flags)
    endStep e penalty ((s.setReg .a o.result).setFlags (setAdderFlags o s.flags))

/-- ADC adds the operand (R171). -/
def addOperand (e : Entry) (src : Source) (s : State) : Result :=
  adderStep (sourceByte src s) (readPenalty src s) e s

/-- SBC adds the operand's complement; Carry 1 means no borrow (R172). -/
def subOperand (e : Entry) (src : Source) (s : State) : Result :=
  adderStep (~~~(sourceByte src s)) (readPenalty src s) e s

/-- ADC, opcode 0x61, Pre-Indexed-Indirect (R171). -/
def execAdcIzx (z : Byte) (s : State) : Result := addOperand (Instr.entry (.adcIzx z)) (.memory (.preIndexed z)) s

/-- ADC, opcode 0x65, ZeroPage (R171). -/
def execAdcZp (z : Byte) (s : State) : Result := addOperand (Instr.entry (.adcZp z)) (.memory (.zeroPage z)) s

/-- ADC, opcode 0x69, Immediate (R171). -/
def execAdcImm (v : Byte) (s : State) : Result := addOperand (Instr.entry (.adcImm v)) (.immediate v) s

/-- ADC, opcode 0x6D, Absolute (R171). -/
def execAdcAbs (w : Word) (s : State) : Result := addOperand (Instr.entry (.adcAbs w)) (.memory (.absolute w)) s

/-- ADC, opcode 0x71, Post-Indexed-Indirect (R171). -/
def execAdcIzy (z : Byte) (s : State) : Result := addOperand (Instr.entry (.adcIzy z)) (.memory (.postIndexed z)) s

/-- ADC, opcode 0x75, ZeroPage-IndexedX (R171). -/
def execAdcZpx (z : Byte) (s : State) : Result := addOperand (Instr.entry (.adcZpx z)) (.memory (.zeroPageX z)) s

/-- ADC, opcode 0x79, Absolute-IndexedY (R171). -/
def execAdcAby (w : Word) (s : State) : Result := addOperand (Instr.entry (.adcAby w)) (.memory (.absoluteY w)) s

/-- ADC, opcode 0x7D, Absolute-IndexedX (R171). -/
def execAdcAbx (w : Word) (s : State) : Result := addOperand (Instr.entry (.adcAbx w)) (.memory (.absoluteX w)) s

/-- SBC, opcode 0xE1, Pre-Indexed-Indirect (R172). -/
def execSbcIzx (z : Byte) (s : State) : Result := subOperand (Instr.entry (.sbcIzx z)) (.memory (.preIndexed z)) s

/-- SBC, opcode 0xE5, ZeroPage (R172). -/
def execSbcZp (z : Byte) (s : State) : Result := subOperand (Instr.entry (.sbcZp z)) (.memory (.zeroPage z)) s

/-- SBC, opcode 0xE9, Immediate (R172). -/
def execSbcImm (v : Byte) (s : State) : Result := subOperand (Instr.entry (.sbcImm v)) (.immediate v) s

/-- SBC, opcode 0xED, Absolute (R172). -/
def execSbcAbs (w : Word) (s : State) : Result := subOperand (Instr.entry (.sbcAbs w)) (.memory (.absolute w)) s

/-- SBC, opcode 0xF1, Post-Indexed-Indirect (R172). -/
def execSbcIzy (z : Byte) (s : State) : Result := subOperand (Instr.entry (.sbcIzy z)) (.memory (.postIndexed z)) s

/-- SBC, opcode 0xF5, ZeroPage-IndexedX (R172). -/
def execSbcZpx (z : Byte) (s : State) : Result := subOperand (Instr.entry (.sbcZpx z)) (.memory (.zeroPageX z)) s

/-- SBC, opcode 0xF9, Absolute-IndexedY (R172). -/
def execSbcAby (w : Word) (s : State) : Result := subOperand (Instr.entry (.sbcAby w)) (.memory (.absoluteY w)) s

/-- SBC, opcode 0xFD, Absolute-IndexedX (R172). -/
def execSbcAbx (w : Word) (s : State) : Result := subOperand (Instr.entry (.sbcAbx w)) (.memory (.absoluteX w)) s

end Sys2Proof.Machine
end

