-- ==== Sys2Proof/Machine/Branch.lean ====
section
/-! DEFINITION. Conditional branches (45_branch.md, R150 to R158). -/

namespace Sys2Proof.Machine

/-- `Branch(pred)` with the predicate "the flag under this mask has this value" (R150). -/
def branchOn (mask : Byte) (v : Bool) (e : Entry) (d : Byte) (s : State) : Result :=
  if flagGet mask s.flags = v then endStepAt e (takenPenalty d s) (branchTarget d s) s else endStep e 0 s

/-- BPL, opcode 0x10, Relative (R151). -/
def execBpl (d : Byte) (s : State) : Result := branchOn maskN false (Instr.entry (.bpl d)) d s

/-- BMI, opcode 0x30, Relative (R152). -/
def execBmi (d : Byte) (s : State) : Result := branchOn maskN true (Instr.entry (.bmi d)) d s

/-- BVC, opcode 0x50, Relative (R153). -/
def execBvc (d : Byte) (s : State) : Result := branchOn maskV false (Instr.entry (.bvc d)) d s

/-- BVS, opcode 0x70, Relative (R154). -/
def execBvs (d : Byte) (s : State) : Result := branchOn maskV true (Instr.entry (.bvs d)) d s

/-- BCC, opcode 0x90, Relative (R155). -/
def execBcc (d : Byte) (s : State) : Result := branchOn maskC false (Instr.entry (.bcc d)) d s

/-- BCS, opcode 0xB0, Relative (R156). -/
def execBcs (d : Byte) (s : State) : Result := branchOn maskC true (Instr.entry (.bcs d)) d s

/-- BNE, opcode 0xD0, Relative (R157). -/
def execBne (d : Byte) (s : State) : Result := branchOn maskZ false (Instr.entry (.bne d)) d s

/-- BEQ, opcode 0xF0, Relative (R158). -/
def execBeq (d : Byte) (s : State) : Result := branchOn maskZ true (Instr.entry (.beq d)) d s

end Sys2Proof.Machine
end

