-- ==== Sys2Proof/Machine/Break.lean ====
section
/-! DEFINITION. BRK, the software trap (46_break.md, R160), and RTI, the return from it (R212). -/

namespace Sys2Proof.Machine

/-- The step of an instruction whose effect `t` sets PC itself (R79). -/
def endOwned (e : Entry) (t : State) : Result := .next (t.addCost e.baseCycles)

/-- BRK, opcode 0x00, Implicit (R160). -/
def execBrk (s : State) : Result := endOwned (Instr.entry .brk) (takeTrap s)

/-- RTI, opcode 0x40, Implicit (R212). -/
def execRti (s : State) : Result := endOwned (Instr.entry .rti) (returnFromTrap s)

end Sys2Proof.Machine
end

