-- ==== Sys2Proof/Machine/FlagOps.lean ====
section
/-! DEFINITION. Flag set and clear (43_flag_ops.md, R130 to R136). -/

namespace Sys2Proof.Machine

/-- One flag bit takes a value; no other flag, register or memory byte changes (section introduction, C3). -/
def writeFlag (mask : Byte) (v : Bool) (e : Entry) (s : State) : Result :=
  endStep e 0 (s.setFlags (flagSet mask v s.flags))

/-- CLC, opcode 0x18, Implicit (R130). -/
def execClc (s : State) : Result := writeFlag maskC false (Instr.entry .clc) s

/-- SEC, opcode 0x38, Implicit (R131). -/
def execSec (s : State) : Result := writeFlag maskC true (Instr.entry .sec) s

/-- CLI, opcode 0x58, Implicit (R132). -/
def execCli (s : State) : Result := writeFlag maskI false (Instr.entry .cli) s

/-- SEI, opcode 0x78, Implicit (R133). -/
def execSei (s : State) : Result := writeFlag maskI true (Instr.entry .sei) s

/-- CLD, opcode 0xD8, Implicit (R134). -/
def execCld (s : State) : Result := writeFlag maskD false (Instr.entry .cld) s

/-- SED, opcode 0xF8, Implicit (R135). -/
def execSed (s : State) : Result := writeFlag maskD true (Instr.entry .sed) s

/-- CLV, opcode 0xB8, Implicit (R136). -/
def execClv (s : State) : Result := writeFlag maskV false (Instr.entry .clv) s

end Sys2Proof.Machine
end

