-- ==== Sys2Proof/Machine/Jump.lean ====
section
/-! DEFINITION. Jumps, subroutines and NOP of EXT_NMOS (R209 to R211, R213). -/

namespace Sys2Proof.Machine


/-- JMP, opcode 0x4C, Absolute (R209). -/
def execJmpAbs (w : Word) (s : State) : Result := endStepAt (Instr.entry (.jmpAbs w)) 0 w s

/-- JMP, opcode 0x6C, Indirect (R209). -/
def execJmpInd (p : Word) (s : State) : Result := endStepAt (Instr.entry (.jmpInd p)) 0 (indirectTarget p s) s

/-- JSR, opcode 0x20, Absolute (R210). -/
def execJsr (w : Word) (s : State) : Result := endStepAt (Instr.entry (.jsr w)) 0 w (s.push16 (s.pc + 2))

/-- RTS, opcode 0x60, Implicit (R211). -/
def execRts (s : State) : Result := endStepAt (Instr.entry .rts) 0 (s.pulled16 + 1) s.pull16

/-- NOP, opcode 0xEA, Implicit (R213). -/
def execNop (s : State) : Result := endStep (Instr.entry .nop) 0 s

end Sys2Proof.Machine
end

