-- ==== Sys2Proof/Machine/LoadStore.lean ====
section
/-! DEFINITION. Loads and stores (40_load_store.md, R100 to R105). -/

namespace Sys2Proof.Machine

/-- A load: the operand goes to a register, Zero and Negative follow it (R100 to R102). -/
def load (r : Reg8) (e : Entry) (src : Source) (s : State) : Result :=
  endStep e (readPenalty src s) ((s.setReg r (sourceByte src s)).setFlags (setZN (sourceByte src s) s.flags))

/-- A store: a register goes to the effective address, no flag changes (R103 to R105, R62). -/
def store (r : Reg8) (e : Entry) (f : MemForm) (s : State) : Result :=
  endStep e (writePenalty f s) (s.poke (effectiveAddress f s) (s.reg r))

/-- LDA, opcode 0xA1, Pre-Indexed-Indirect (R100). -/
def execLdaIzx (z : Byte) (s : State) : Result := load .a (Instr.entry (.ldaIzx z)) (.memory (.preIndexed z)) s

/-- LDA, opcode 0xA5, ZeroPage (R100). -/
def execLdaZp (z : Byte) (s : State) : Result := load .a (Instr.entry (.ldaZp z)) (.memory (.zeroPage z)) s

/-- LDA, opcode 0xA9, Immediate (R100). -/
def execLdaImm (v : Byte) (s : State) : Result := load .a (Instr.entry (.ldaImm v)) (.immediate v) s

/-- LDA, opcode 0xAD, Absolute (R100). -/
def execLdaAbs (w : Word) (s : State) : Result := load .a (Instr.entry (.ldaAbs w)) (.memory (.absolute w)) s

/-- LDA, opcode 0xB1, Post-Indexed-Indirect (R100). -/
def execLdaIzy (z : Byte) (s : State) : Result := load .a (Instr.entry (.ldaIzy z)) (.memory (.postIndexed z)) s

/-- LDA, opcode 0xB5, ZeroPage-IndexedX (R100). -/
def execLdaZpx (z : Byte) (s : State) : Result := load .a (Instr.entry (.ldaZpx z)) (.memory (.zeroPageX z)) s

/-- LDA, opcode 0xB9, Absolute-IndexedY (R100). -/
def execLdaAby (w : Word) (s : State) : Result := load .a (Instr.entry (.ldaAby w)) (.memory (.absoluteY w)) s

/-- LDA, opcode 0xBD, Absolute-IndexedX (R100). -/
def execLdaAbx (w : Word) (s : State) : Result := load .a (Instr.entry (.ldaAbx w)) (.memory (.absoluteX w)) s

/-- LDX, opcode 0xA2, Immediate (R101). -/
def execLdxImm (v : Byte) (s : State) : Result := load .x (Instr.entry (.ldxImm v)) (.immediate v) s

/-- LDX, opcode 0xA6, ZeroPage (R101). -/
def execLdxZp (z : Byte) (s : State) : Result := load .x (Instr.entry (.ldxZp z)) (.memory (.zeroPage z)) s

/-- LDX, opcode 0xAE, Absolute (R101). -/
def execLdxAbs (w : Word) (s : State) : Result := load .x (Instr.entry (.ldxAbs w)) (.memory (.absolute w)) s

/-- LDX, opcode 0xB6, ZeroPage-IndexedY (R101). -/
def execLdxZpy (z : Byte) (s : State) : Result := load .x (Instr.entry (.ldxZpy z)) (.memory (.zeroPageY z)) s

/-- LDX, opcode 0xBE, Absolute-IndexedY (R101). -/
def execLdxAby (w : Word) (s : State) : Result := load .x (Instr.entry (.ldxAby w)) (.memory (.absoluteY w)) s

/-- LDY, opcode 0xA0, Immediate (R102). -/
def execLdyImm (v : Byte) (s : State) : Result := load .y (Instr.entry (.ldyImm v)) (.immediate v) s

/-- LDY, opcode 0xA4, ZeroPage (R102). -/
def execLdyZp (z : Byte) (s : State) : Result := load .y (Instr.entry (.ldyZp z)) (.memory (.zeroPage z)) s

/-- LDY, opcode 0xAC, Absolute (R102). -/
def execLdyAbs (w : Word) (s : State) : Result := load .y (Instr.entry (.ldyAbs w)) (.memory (.absolute w)) s

/-- LDY, opcode 0xB4, ZeroPage-IndexedX (R102). -/
def execLdyZpx (z : Byte) (s : State) : Result := load .y (Instr.entry (.ldyZpx z)) (.memory (.zeroPageX z)) s

/-- LDY, opcode 0xBC, Absolute-IndexedX (R102). -/
def execLdyAbx (w : Word) (s : State) : Result := load .y (Instr.entry (.ldyAbx w)) (.memory (.absoluteX w)) s

/-- STA, opcode 0x81, Pre-Indexed-Indirect (R103). -/
def execStaIzx (z : Byte) (s : State) : Result := store .a (Instr.entry (.staIzx z)) (.preIndexed z) s

/-- STA, opcode 0x85, ZeroPage (R103). -/
def execStaZp (z : Byte) (s : State) : Result := store .a (Instr.entry (.staZp z)) (.zeroPage z) s

/-- STA, opcode 0x8D, Absolute (R103). -/
def execStaAbs (w : Word) (s : State) : Result := store .a (Instr.entry (.staAbs w)) (.absolute w) s

/-- STA, opcode 0x91, Post-Indexed-Indirect (R103). -/
def execStaIzy (z : Byte) (s : State) : Result := store .a (Instr.entry (.staIzy z)) (.postIndexed z) s

/-- STA, opcode 0x95, ZeroPage-IndexedX (R103). -/
def execStaZpx (z : Byte) (s : State) : Result := store .a (Instr.entry (.staZpx z)) (.zeroPageX z) s

/-- STA, opcode 0x99, Absolute-IndexedY (R103). -/
def execStaAby (w : Word) (s : State) : Result := store .a (Instr.entry (.staAby w)) (.absoluteY w) s

/-- STA, opcode 0x9D, Absolute-IndexedX (R103). -/
def execStaAbx (w : Word) (s : State) : Result := store .a (Instr.entry (.staAbx w)) (.absoluteX w) s

/-- STX, opcode 0x86, ZeroPage (R104). -/
def execStxZp (z : Byte) (s : State) : Result := store .x (Instr.entry (.stxZp z)) (.zeroPage z) s

/-- STX, opcode 0x8E, Absolute (R104). -/
def execStxAbs (w : Word) (s : State) : Result := store .x (Instr.entry (.stxAbs w)) (.absolute w) s

/-- STX, opcode 0x96, ZeroPage-IndexedY (R104). -/
def execStxZpy (z : Byte) (s : State) : Result := store .x (Instr.entry (.stxZpy z)) (.zeroPageY z) s

/-- STY, opcode 0x84, ZeroPage (R105). -/
def execStyZp (z : Byte) (s : State) : Result := store .y (Instr.entry (.styZp z)) (.zeroPage z) s

/-- STY, opcode 0x8C, Absolute (R105). -/
def execStyAbs (w : Word) (s : State) : Result := store .y (Instr.entry (.styAbs w)) (.absolute w) s

/-- STY, opcode 0x94, ZeroPage-IndexedX (R105). -/
def execStyZpx (z : Byte) (s : State) : Result := store .y (Instr.entry (.styZpx z)) (.zeroPageX z) s

end Sys2Proof.Machine
end

