-- ==== Sys2Proof/Machine/Logic.lean ====
section
/-! DEFINITION. The logic, bit-test and compare instructions of EXT_NMOS (R202 to R208). -/

namespace Sys2Proof.Machine

/-- ORA, AND and EOR: A takes the combination of A and the operand, Zero and Negative follow it (R202 to R204). -/
def combine (fn : Byte → Byte → Byte) (e : Entry) (src : Source) (s : State) : Result :=
  let v := fn s.a (sourceByte src s)
  endStep e (readPenalty src s) ((s.setReg .a v).setFlags (setZN v s.flags))

/-- BIT: Zero, Negative and Overflow from a memory byte; A is unchanged (R205). -/
def bitTest (e : Entry) (src : Source) (s : State) : Result :=
  endStep e (readPenalty src s) (s.setFlags (bitFlags s.a (sourceByte src s) s.flags))

/-- CMP, CPX and CPY: Carry, Zero and Negative of register minus operand; no register changes (R206 to R208). -/
def compareRegister (r : Reg8) (e : Entry) (src : Source) (s : State) : Result :=
  endStep e (readPenalty src s) (s.setFlags (compareFlags (s.reg r) (sourceByte src s) s.flags))

/-- ORA, opcode 0x01, Pre-Indexed-Indirect (R202). -/
def execOraIzx (z : Byte) (s : State) : Result := combine (· ||| ·) (Instr.entry (.oraIzx z)) (.memory (.preIndexed z)) s

/-- ORA, opcode 0x05, ZeroPage (R202). -/
def execOraZp (z : Byte) (s : State) : Result := combine (· ||| ·) (Instr.entry (.oraZp z)) (.memory (.zeroPage z)) s

/-- ORA, opcode 0x09, Immediate (R202). -/
def execOraImm (v : Byte) (s : State) : Result := combine (· ||| ·) (Instr.entry (.oraImm v)) (.immediate v) s

/-- ORA, opcode 0x0D, Absolute (R202). -/
def execOraAbs (w : Word) (s : State) : Result := combine (· ||| ·) (Instr.entry (.oraAbs w)) (.memory (.absolute w)) s

/-- ORA, opcode 0x11, Post-Indexed-Indirect (R202). -/
def execOraIzy (z : Byte) (s : State) : Result := combine (· ||| ·) (Instr.entry (.oraIzy z)) (.memory (.postIndexed z)) s

/-- ORA, opcode 0x15, ZeroPage-IndexedX (R202). -/
def execOraZpx (z : Byte) (s : State) : Result := combine (· ||| ·) (Instr.entry (.oraZpx z)) (.memory (.zeroPageX z)) s

/-- ORA, opcode 0x19, Absolute-IndexedY (R202). -/
def execOraAby (w : Word) (s : State) : Result := combine (· ||| ·) (Instr.entry (.oraAby w)) (.memory (.absoluteY w)) s

/-- ORA, opcode 0x1D, Absolute-IndexedX (R202). -/
def execOraAbx (w : Word) (s : State) : Result := combine (· ||| ·) (Instr.entry (.oraAbx w)) (.memory (.absoluteX w)) s

/-- AND, opcode 0x21, Pre-Indexed-Indirect (R203). -/
def execAndIzx (z : Byte) (s : State) : Result := combine (· &&& ·) (Instr.entry (.andIzx z)) (.memory (.preIndexed z)) s

/-- AND, opcode 0x25, ZeroPage (R203). -/
def execAndZp (z : Byte) (s : State) : Result := combine (· &&& ·) (Instr.entry (.andZp z)) (.memory (.zeroPage z)) s

/-- AND, opcode 0x29, Immediate (R203). -/
def execAndImm (v : Byte) (s : State) : Result := combine (· &&& ·) (Instr.entry (.andImm v)) (.immediate v) s

/-- AND, opcode 0x2D, Absolute (R203). -/
def execAndAbs (w : Word) (s : State) : Result := combine (· &&& ·) (Instr.entry (.andAbs w)) (.memory (.absolute w)) s

/-- AND, opcode 0x31, Post-Indexed-Indirect (R203). -/
def execAndIzy (z : Byte) (s : State) : Result := combine (· &&& ·) (Instr.entry (.andIzy z)) (.memory (.postIndexed z)) s

/-- AND, opcode 0x35, ZeroPage-IndexedX (R203). -/
def execAndZpx (z : Byte) (s : State) : Result := combine (· &&& ·) (Instr.entry (.andZpx z)) (.memory (.zeroPageX z)) s

/-- AND, opcode 0x39, Absolute-IndexedY (R203). -/
def execAndAby (w : Word) (s : State) : Result := combine (· &&& ·) (Instr.entry (.andAby w)) (.memory (.absoluteY w)) s

/-- AND, opcode 0x3D, Absolute-IndexedX (R203). -/
def execAndAbx (w : Word) (s : State) : Result := combine (· &&& ·) (Instr.entry (.andAbx w)) (.memory (.absoluteX w)) s

/-- EOR, opcode 0x41, Pre-Indexed-Indirect (R204). -/
def execEorIzx (z : Byte) (s : State) : Result := combine (· ^^^ ·) (Instr.entry (.eorIzx z)) (.memory (.preIndexed z)) s

/-- EOR, opcode 0x45, ZeroPage (R204). -/
def execEorZp (z : Byte) (s : State) : Result := combine (· ^^^ ·) (Instr.entry (.eorZp z)) (.memory (.zeroPage z)) s

/-- EOR, opcode 0x49, Immediate (R204). -/
def execEorImm (v : Byte) (s : State) : Result := combine (· ^^^ ·) (Instr.entry (.eorImm v)) (.immediate v) s

/-- EOR, opcode 0x4D, Absolute (R204). -/
def execEorAbs (w : Word) (s : State) : Result := combine (· ^^^ ·) (Instr.entry (.eorAbs w)) (.memory (.absolute w)) s

/-- EOR, opcode 0x51, Post-Indexed-Indirect (R204). -/
def execEorIzy (z : Byte) (s : State) : Result := combine (· ^^^ ·) (Instr.entry (.eorIzy z)) (.memory (.postIndexed z)) s

/-- EOR, opcode 0x55, ZeroPage-IndexedX (R204). -/
def execEorZpx (z : Byte) (s : State) : Result := combine (· ^^^ ·) (Instr.entry (.eorZpx z)) (.memory (.zeroPageX z)) s

/-- EOR, opcode 0x59, Absolute-IndexedY (R204). -/
def execEorAby (w : Word) (s : State) : Result := combine (· ^^^ ·) (Instr.entry (.eorAby w)) (.memory (.absoluteY w)) s

/-- EOR, opcode 0x5D, Absolute-IndexedX (R204). -/
def execEorAbx (w : Word) (s : State) : Result := combine (· ^^^ ·) (Instr.entry (.eorAbx w)) (.memory (.absoluteX w)) s

/-- BIT, opcode 0x24, ZeroPage (R205). -/
def execBitZp (z : Byte) (s : State) : Result := bitTest (Instr.entry (.bitZp z)) (.memory (.zeroPage z)) s

/-- BIT, opcode 0x2C, Absolute (R205). -/
def execBitAbs (w : Word) (s : State) : Result := bitTest (Instr.entry (.bitAbs w)) (.memory (.absolute w)) s

/-- CMP, opcode 0xC1, Pre-Indexed-Indirect (R206). -/
def execCmpIzx (z : Byte) (s : State) : Result := compareRegister .a (Instr.entry (.cmpIzx z)) (.memory (.preIndexed z)) s

/-- CMP, opcode 0xC5, ZeroPage (R206). -/
def execCmpZp (z : Byte) (s : State) : Result := compareRegister .a (Instr.entry (.cmpZp z)) (.memory (.zeroPage z)) s

/-- CMP, opcode 0xC9, Immediate (R206). -/
def execCmpImm (v : Byte) (s : State) : Result := compareRegister .a (Instr.entry (.cmpImm v)) (.immediate v) s

/-- CMP, opcode 0xCD, Absolute (R206). -/
def execCmpAbs (w : Word) (s : State) : Result := compareRegister .a (Instr.entry (.cmpAbs w)) (.memory (.absolute w)) s

/-- CMP, opcode 0xD1, Post-Indexed-Indirect (R206). -/
def execCmpIzy (z : Byte) (s : State) : Result := compareRegister .a (Instr.entry (.cmpIzy z)) (.memory (.postIndexed z)) s

/-- CMP, opcode 0xD5, ZeroPage-IndexedX (R206). -/
def execCmpZpx (z : Byte) (s : State) : Result := compareRegister .a (Instr.entry (.cmpZpx z)) (.memory (.zeroPageX z)) s

/-- CMP, opcode 0xD9, Absolute-IndexedY (R206). -/
def execCmpAby (w : Word) (s : State) : Result := compareRegister .a (Instr.entry (.cmpAby w)) (.memory (.absoluteY w)) s

/-- CMP, opcode 0xDD, Absolute-IndexedX (R206). -/
def execCmpAbx (w : Word) (s : State) : Result := compareRegister .a (Instr.entry (.cmpAbx w)) (.memory (.absoluteX w)) s

/-- CPX, opcode 0xE0, Immediate (R207). -/
def execCpxImm (v : Byte) (s : State) : Result := compareRegister .x (Instr.entry (.cpxImm v)) (.immediate v) s

/-- CPX, opcode 0xE4, ZeroPage (R207). -/
def execCpxZp (z : Byte) (s : State) : Result := compareRegister .x (Instr.entry (.cpxZp z)) (.memory (.zeroPage z)) s

/-- CPX, opcode 0xEC, Absolute (R207). -/
def execCpxAbs (w : Word) (s : State) : Result := compareRegister .x (Instr.entry (.cpxAbs w)) (.memory (.absolute w)) s

/-- CPY, opcode 0xC0, Immediate (R208). -/
def execCpyImm (v : Byte) (s : State) : Result := compareRegister .y (Instr.entry (.cpyImm v)) (.immediate v) s

/-- CPY, opcode 0xC4, ZeroPage (R208). -/
def execCpyZp (z : Byte) (s : State) : Result := compareRegister .y (Instr.entry (.cpyZp z)) (.memory (.zeroPage z)) s

/-- CPY, opcode 0xCC, Absolute (R208). -/
def execCpyAbs (w : Word) (s : State) : Result := compareRegister .y (Instr.entry (.cpyAbs w)) (.memory (.absolute w)) s

end Sys2Proof.Machine
end

