-- ==== Sys2Proof/Machine/IncDec.lean ====
section
/-! DEFINITION. Increment and decrement (41_inc_dec.md, R110 to R115), with the read-modify-write of R63 that the shifts share and the
register write of R28 that the transfers share. -/

namespace Sys2Proof.Machine

/-- `RMW(mode, f)` on memory: one address, one read, one write; Zero and Negative follow the new byte (R63). The byte
function takes the byte and the flags, and answers the new byte and the flags it leaves. -/
def modifyMemory (fn : Byte → Byte → Byte × Byte) (e : Entry) (f : MemForm) (s : State) : Result :=
  let out := fn (s.peek (effectiveAddress f s)) s.flags
  endStep e (writePenalty f s) ((s.poke (effectiveAddress f s) out.1).setFlags (setZN out.1 out.2))

/-- `RMW(Implicit, f)`, the accumulator form (R63). -/
def modifyAccumulator (fn : Byte → Byte → Byte × Byte) (e : Entry) (s : State) : Result :=
  let out := fn s.a s.flags
  endStep e 0 ((s.setReg .a out.1).setFlags (setZN out.1 out.2))

/-- A register takes a new value, Zero and Negative follow it (R28). -/
def setRegister (r : Reg8) (v : Byte) (e : Entry) (s : State) : Result :=
  endStep e 0 ((s.setReg r v).setFlags (setZN v s.flags))

/-- INC, opcode 0xE6, ZeroPage (R110). -/
def execIncZp (z : Byte) (s : State) : Result := modifyMemory incByte (Instr.entry (.incZp z)) (.zeroPage z) s

/-- INC, opcode 0xEE, Absolute (R110). -/
def execIncAbs (w : Word) (s : State) : Result := modifyMemory incByte (Instr.entry (.incAbs w)) (.absolute w) s

/-- INC, opcode 0xF6, ZeroPage-IndexedX (R110). -/
def execIncZpx (z : Byte) (s : State) : Result := modifyMemory incByte (Instr.entry (.incZpx z)) (.zeroPageX z) s

/-- INC, opcode 0xFE, Absolute-IndexedX (R110). -/
def execIncAbx (w : Word) (s : State) : Result := modifyMemory incByte (Instr.entry (.incAbx w)) (.absoluteX w) s

/-- DEC, opcode 0xC6, ZeroPage (R111). -/
def execDecZp (z : Byte) (s : State) : Result := modifyMemory decByte (Instr.entry (.decZp z)) (.zeroPage z) s

/-- DEC, opcode 0xCE, Absolute (R111). -/
def execDecAbs (w : Word) (s : State) : Result := modifyMemory decByte (Instr.entry (.decAbs w)) (.absolute w) s

/-- DEC, opcode 0xD6, ZeroPage-IndexedX (R111). -/
def execDecZpx (z : Byte) (s : State) : Result := modifyMemory decByte (Instr.entry (.decZpx z)) (.zeroPageX z) s

/-- DEC, opcode 0xDE, Absolute-IndexedX (R111). -/
def execDecAbx (w : Word) (s : State) : Result := modifyMemory decByte (Instr.entry (.decAbx w)) (.absoluteX w) s

/-- INX, opcode 0xE8, Implicit (R112). -/
def execInx (s : State) : Result := setRegister .x (s.x + 1) (Instr.entry .inx) s

/-- INY, opcode 0xC8, Implicit (R113). -/
def execIny (s : State) : Result := setRegister .y (s.y + 1) (Instr.entry .iny) s

/-- DEX, opcode 0xCA, Implicit (R114). -/
def execDex (s : State) : Result := setRegister .x (s.x - 1) (Instr.entry .dex) s

/-- DEY, opcode 0x88, Implicit (R115). -/
def execDey (s : State) : Result := setRegister .y (s.y - 1) (Instr.entry .dey) s

end Sys2Proof.Machine
end

