-- ==== Sys2Proof/Machine/Shift.lean ====
section
/-! DEFINITION. Shifts and rotates (48_shift.md, R180 to R183), through the read-modify-write of R63. -/

namespace Sys2Proof.Machine


/-- ASL, opcode 0x06, ZeroPage (R180). -/
def execAslZp (z : Byte) (s : State) : Result := modifyMemory aslByte (Instr.entry (.aslZp z)) (.zeroPage z) s

/-- ASL, opcode 0x0A, Implicit (R180). -/
def execAslAcc (s : State) : Result := modifyAccumulator aslByte (Instr.entry .aslAcc) s

/-- ASL, opcode 0x0E, Absolute (R180). -/
def execAslAbs (w : Word) (s : State) : Result := modifyMemory aslByte (Instr.entry (.aslAbs w)) (.absolute w) s

/-- ASL, opcode 0x16, ZeroPage-IndexedX (R180). -/
def execAslZpx (z : Byte) (s : State) : Result := modifyMemory aslByte (Instr.entry (.aslZpx z)) (.zeroPageX z) s

/-- ASL, opcode 0x1E, Absolute-IndexedX (R180). -/
def execAslAbx (w : Word) (s : State) : Result := modifyMemory aslByte (Instr.entry (.aslAbx w)) (.absoluteX w) s

/-- LSR, opcode 0x46, ZeroPage (R181). -/
def execLsrZp (z : Byte) (s : State) : Result := modifyMemory lsrByte (Instr.entry (.lsrZp z)) (.zeroPage z) s

/-- LSR, opcode 0x4A, Implicit (R181). -/
def execLsrAcc (s : State) : Result := modifyAccumulator lsrByte (Instr.entry .lsrAcc) s

/-- LSR, opcode 0x4E, Absolute (R181). -/
def execLsrAbs (w : Word) (s : State) : Result := modifyMemory lsrByte (Instr.entry (.lsrAbs w)) (.absolute w) s

/-- LSR, opcode 0x56, ZeroPage-IndexedX (R181). -/
def execLsrZpx (z : Byte) (s : State) : Result := modifyMemory lsrByte (Instr.entry (.lsrZpx z)) (.zeroPageX z) s

/-- LSR, opcode 0x5E, Absolute-IndexedX (R181). -/
def execLsrAbx (w : Word) (s : State) : Result := modifyMemory lsrByte (Instr.entry (.lsrAbx w)) (.absoluteX w) s

/-- ROL, opcode 0x26, ZeroPage (R182). -/
def execRolZp (z : Byte) (s : State) : Result := modifyMemory rolByte (Instr.entry (.rolZp z)) (.zeroPage z) s

/-- ROL, opcode 0x2A, Implicit (R182). -/
def execRolAcc (s : State) : Result := modifyAccumulator rolByte (Instr.entry .rolAcc) s

/-- ROL, opcode 0x2E, Absolute (R182). -/
def execRolAbs (w : Word) (s : State) : Result := modifyMemory rolByte (Instr.entry (.rolAbs w)) (.absolute w) s

/-- ROL, opcode 0x36, ZeroPage-IndexedX (R182). -/
def execRolZpx (z : Byte) (s : State) : Result := modifyMemory rolByte (Instr.entry (.rolZpx z)) (.zeroPageX z) s

/-- ROL, opcode 0x3E, Absolute-IndexedX (R182). -/
def execRolAbx (w : Word) (s : State) : Result := modifyMemory rolByte (Instr.entry (.rolAbx w)) (.absoluteX w) s

/-- ROR, opcode 0x66, ZeroPage (R183). -/
def execRorZp (z : Byte) (s : State) : Result := modifyMemory rorByte (Instr.entry (.rorZp z)) (.zeroPage z) s

/-- ROR, opcode 0x6A, Implicit (R183). -/
def execRorAcc (s : State) : Result := modifyAccumulator rorByte (Instr.entry .rorAcc) s

/-- ROR, opcode 0x6E, Absolute (R183). -/
def execRorAbs (w : Word) (s : State) : Result := modifyMemory rorByte (Instr.entry (.rorAbs w)) (.absolute w) s

/-- ROR, opcode 0x76, ZeroPage-IndexedX (R183). -/
def execRorZpx (z : Byte) (s : State) : Result := modifyMemory rorByte (Instr.entry (.rorZpx z)) (.zeroPageX z) s

/-- ROR, opcode 0x7E, Absolute-IndexedX (R183). -/
def execRorAbx (w : Word) (s : State) : Result := modifyMemory rorByte (Instr.entry (.rorAbx w)) (.absoluteX w) s

end Sys2Proof.Machine
end

