-- ==== Sys2Proof/Machine/Stack.lean ====
section
/-! DEFINITION. Stack operations (44_stack.md, R140 to R143). -/

namespace Sys2Proof.Machine

/-- A push of a register's byte, as stored; no flag changes (R140, R141). -/
def pushRegister (r : Reg8) (e : Entry) (s : State) : Result :=
  endStep e 0 (s.push (s.reg r))

/-- PLA: the pulled byte goes to A, Zero and Negative follow it (R142). -/
def pullAccumulator (e : Entry) (s : State) : Result :=
  endStep e 0 ((s.pull.setReg .a s.pulled).setFlags (setZN s.pulled s.flags))

/-- PLP: the pulled byte goes to Flags with Break forced low (R143). -/
def pullFlags (e : Entry) (s : State) : Result :=
  endStep e 0 (s.pull.setFlags (restoredFlags s.pulled))

/-- PHA, opcode 0x48, Implicit (R140). -/
def execPha (s : State) : Result := pushRegister .a (Instr.entry .pha) s

/-- PHP, opcode 0x08, Implicit (R141). -/
def execPhp (s : State) : Result := pushRegister .flags (Instr.entry .php) s

/-- PLA, opcode 0x68, Implicit (R142). -/
def execPla (s : State) : Result := pullAccumulator (Instr.entry .pla) s

/-- PLP, opcode 0x28, Implicit (R143). -/
def execPlp (s : State) : Result := pullFlags (Instr.entry .plp) s

end Sys2Proof.Machine
end

