-- ==== Sys2Proof/Machine/Transfer.lean ====
section
/-! DEFINITION. Register transfers (42_transfer.md, R120 to R125). -/

namespace Sys2Proof.Machine

/-- TXS's shape: SP takes a value with no flag effect (R125). -/
def setStackPointer (v : Byte) (e : Entry) (s : State) : Result :=
  endStep e 0 (s.setReg .sp v)

/-- TAX, opcode 0xAA, Implicit (R120). -/
def execTax (s : State) : Result := setRegister .x s.a (Instr.entry .tax) s

/-- TAY, opcode 0xA8, Implicit (R121). -/
def execTay (s : State) : Result := setRegister .y s.a (Instr.entry .tay) s

/-- TXA, opcode 0x8A, Implicit (R122). -/
def execTxa (s : State) : Result := setRegister .a s.x (Instr.entry .txa) s

/-- TYA, opcode 0x98, Implicit (R123). -/
def execTya (s : State) : Result := setRegister .a s.y (Instr.entry .tya) s

/-- TSX, opcode 0xBA, Implicit (R124). -/
def execTsx (s : State) : Result := setRegister .x s.sp (Instr.entry .tsx) s

/-- TXS, opcode 0x9A, Implicit (R125). -/
def execTxs (s : State) : Result := setStackPointer s.x (Instr.entry .txs) s

end Sys2Proof.Machine
end

