-- ==== Sys2Proof/Machine/Dispatch.lean ====
section
/-! DEFINITION. One arm per constructor of Instr: a direct call of its meaning. -/

namespace Sys2Proof.Machine

def exec (i : Instr) (s : State) : Host.Outcome State Fault Refusal :=
  match i with
  | .ldaIzx z => Sys2Proof.Machine.execLdaIzx z s
  | .ldaZp z => Sys2Proof.Machine.execLdaZp z s
  | .ldaImm v => Sys2Proof.Machine.execLdaImm v s
  | .ldaAbs w => Sys2Proof.Machine.execLdaAbs w s
  | .ldaIzy z => Sys2Proof.Machine.execLdaIzy z s
  | .ldaZpx z => Sys2Proof.Machine.execLdaZpx z s
  | .ldaAby w => Sys2Proof.Machine.execLdaAby w s
  | .ldaAbx w => Sys2Proof.Machine.execLdaAbx w s
  | .ldxImm v => Sys2Proof.Machine.execLdxImm v s
  | .ldxZp z => Sys2Proof.Machine.execLdxZp z s
  | .ldxAbs w => Sys2Proof.Machine.execLdxAbs w s
  | .ldxZpy z => Sys2Proof.Machine.execLdxZpy z s
  | .ldxAby w => Sys2Proof.Machine.execLdxAby w s
  | .ldyImm v => Sys2Proof.Machine.execLdyImm v s
  | .ldyZp z => Sys2Proof.Machine.execLdyZp z s
  | .ldyAbs w => Sys2Proof.Machine.execLdyAbs w s
  | .ldyZpx z => Sys2Proof.Machine.execLdyZpx z s
  | .ldyAbx w => Sys2Proof.Machine.execLdyAbx w s
  | .staIzx z => Sys2Proof.Machine.execStaIzx z s
  | .staZp z => Sys2Proof.Machine.execStaZp z s
  | .staAbs w => Sys2Proof.Machine.execStaAbs w s
  | .staIzy z => Sys2Proof.Machine.execStaIzy z s
  | .staZpx z => Sys2Proof.Machine.execStaZpx z s
  | .staAby w => Sys2Proof.Machine.execStaAby w s
  | .staAbx w => Sys2Proof.Machine.execStaAbx w s
  | .stxZp z => Sys2Proof.Machine.execStxZp z s
  | .stxAbs w => Sys2Proof.Machine.execStxAbs w s
  | .stxZpy z => Sys2Proof.Machine.execStxZpy z s
  | .styZp z => Sys2Proof.Machine.execStyZp z s
  | .styAbs w => Sys2Proof.Machine.execStyAbs w s
  | .styZpx z => Sys2Proof.Machine.execStyZpx z s
  | .incZp z => Sys2Proof.Machine.execIncZp z s
  | .incAbs w => Sys2Proof.Machine.execIncAbs w s
  | .incZpx z => Sys2Proof.Machine.execIncZpx z s
  | .incAbx w => Sys2Proof.Machine.execIncAbx w s
  | .decZp z => Sys2Proof.Machine.execDecZp z s
  | .decAbs w => Sys2Proof.Machine.execDecAbs w s
  | .decZpx z => Sys2Proof.Machine.execDecZpx z s
  | .decAbx w => Sys2Proof.Machine.execDecAbx w s
  | .inx => Sys2Proof.Machine.execInx s
  | .iny => Sys2Proof.Machine.execIny s
  | .dex => Sys2Proof.Machine.execDex s
  | .dey => Sys2Proof.Machine.execDey s
  | .tax => Sys2Proof.Machine.execTax s
  | .tay => Sys2Proof.Machine.execTay s
  | .txa => Sys2Proof.Machine.execTxa s
  | .tya => Sys2Proof.Machine.execTya s
  | .tsx => Sys2Proof.Machine.execTsx s
  | .txs => Sys2Proof.Machine.execTxs s
  | .clc => Sys2Proof.Machine.execClc s
  | .sec => Sys2Proof.Machine.execSec s
  | .cli => Sys2Proof.Machine.execCli s
  | .sei => Sys2Proof.Machine.execSei s
  | .cld => Sys2Proof.Machine.execCld s
  | .sed => Sys2Proof.Machine.execSed s
  | .clv => Sys2Proof.Machine.execClv s
  | .pha => Sys2Proof.Machine.execPha s
  | .php => Sys2Proof.Machine.execPhp s
  | .pla => Sys2Proof.Machine.execPla s
  | .plp => Sys2Proof.Machine.execPlp s
  | .bpl d => Sys2Proof.Machine.execBpl d s
  | .bmi d => Sys2Proof.Machine.execBmi d s
  | .bvc d => Sys2Proof.Machine.execBvc d s
  | .bvs d => Sys2Proof.Machine.execBvs d s
  | .bcc d => Sys2Proof.Machine.execBcc d s
  | .bcs d => Sys2Proof.Machine.execBcs d s
  | .bne d => Sys2Proof.Machine.execBne d s
  | .beq d => Sys2Proof.Machine.execBeq d s
  | .brk => Sys2Proof.Machine.execBrk s
  | .adcIzx z => Sys2Proof.Machine.execAdcIzx z s
  | .adcZp z => Sys2Proof.Machine.execAdcZp z s
  | .adcImm v => Sys2Proof.Machine.execAdcImm v s
  | .adcAbs w => Sys2Proof.Machine.execAdcAbs w s
  | .adcIzy z => Sys2Proof.Machine.execAdcIzy z s
  | .adcZpx z => Sys2Proof.Machine.execAdcZpx z s
  | .adcAby w => Sys2Proof.Machine.execAdcAby w s
  | .adcAbx w => Sys2Proof.Machine.execAdcAbx w s
  | .sbcIzx z => Sys2Proof.Machine.execSbcIzx z s
  | .sbcZp z => Sys2Proof.Machine.execSbcZp z s
  | .sbcImm v => Sys2Proof.Machine.execSbcImm v s
  | .sbcAbs w => Sys2Proof.Machine.execSbcAbs w s
  | .sbcIzy z => Sys2Proof.Machine.execSbcIzy z s
  | .sbcZpx z => Sys2Proof.Machine.execSbcZpx z s
  | .sbcAby w => Sys2Proof.Machine.execSbcAby w s
  | .sbcAbx w => Sys2Proof.Machine.execSbcAbx w s
  | .aslZp z => Sys2Proof.Machine.execAslZp z s
  | .aslAcc => Sys2Proof.Machine.execAslAcc s
  | .aslAbs w => Sys2Proof.Machine.execAslAbs w s
  | .aslZpx z => Sys2Proof.Machine.execAslZpx z s
  | .aslAbx w => Sys2Proof.Machine.execAslAbx w s
  | .lsrZp z => Sys2Proof.Machine.execLsrZp z s
  | .lsrAcc => Sys2Proof.Machine.execLsrAcc s
  | .lsrAbs w => Sys2Proof.Machine.execLsrAbs w s
  | .lsrZpx z => Sys2Proof.Machine.execLsrZpx z s
  | .lsrAbx w => Sys2Proof.Machine.execLsrAbx w s
  | .rolZp z => Sys2Proof.Machine.execRolZp z s
  | .rolAcc => Sys2Proof.Machine.execRolAcc s
  | .rolAbs w => Sys2Proof.Machine.execRolAbs w s
  | .rolZpx z => Sys2Proof.Machine.execRolZpx z s
  | .rolAbx w => Sys2Proof.Machine.execRolAbx w s
  | .rorZp z => Sys2Proof.Machine.execRorZp z s
  | .rorAcc => Sys2Proof.Machine.execRorAcc s
  | .rorAbs w => Sys2Proof.Machine.execRorAbs w s
  | .rorZpx z => Sys2Proof.Machine.execRorZpx z s
  | .rorAbx w => Sys2Proof.Machine.execRorAbx w s
  | .oraIzx z => Sys2Proof.Machine.execOraIzx z s
  | .oraZp z => Sys2Proof.Machine.execOraZp z s
  | .oraImm v => Sys2Proof.Machine.execOraImm v s
  | .oraAbs w => Sys2Proof.Machine.execOraAbs w s
  | .oraIzy z => Sys2Proof.Machine.execOraIzy z s
  | .oraZpx z => Sys2Proof.Machine.execOraZpx z s
  | .oraAby w => Sys2Proof.Machine.execOraAby w s
  | .oraAbx w => Sys2Proof.Machine.execOraAbx w s
  | .andIzx z => Sys2Proof.Machine.execAndIzx z s
  | .andZp z => Sys2Proof.Machine.execAndZp z s
  | .andImm v => Sys2Proof.Machine.execAndImm v s
  | .andAbs w => Sys2Proof.Machine.execAndAbs w s
  | .andIzy z => Sys2Proof.Machine.execAndIzy z s
  | .andZpx z => Sys2Proof.Machine.execAndZpx z s
  | .andAby w => Sys2Proof.Machine.execAndAby w s
  | .andAbx w => Sys2Proof.Machine.execAndAbx w s
  | .eorIzx z => Sys2Proof.Machine.execEorIzx z s
  | .eorZp z => Sys2Proof.Machine.execEorZp z s
  | .eorImm v => Sys2Proof.Machine.execEorImm v s
  | .eorAbs w => Sys2Proof.Machine.execEorAbs w s
  | .eorIzy z => Sys2Proof.Machine.execEorIzy z s
  | .eorZpx z => Sys2Proof.Machine.execEorZpx z s
  | .eorAby w => Sys2Proof.Machine.execEorAby w s
  | .eorAbx w => Sys2Proof.Machine.execEorAbx w s
  | .bitZp z => Sys2Proof.Machine.execBitZp z s
  | .bitAbs w => Sys2Proof.Machine.execBitAbs w s
  | .cmpIzx z => Sys2Proof.Machine.execCmpIzx z s
  | .cmpZp z => Sys2Proof.Machine.execCmpZp z s
  | .cmpImm v => Sys2Proof.Machine.execCmpImm v s
  | .cmpAbs w => Sys2Proof.Machine.execCmpAbs w s
  | .cmpIzy z => Sys2Proof.Machine.execCmpIzy z s
  | .cmpZpx z => Sys2Proof.Machine.execCmpZpx z s
  | .cmpAby w => Sys2Proof.Machine.execCmpAby w s
  | .cmpAbx w => Sys2Proof.Machine.execCmpAbx w s
  | .cpxImm v => Sys2Proof.Machine.execCpxImm v s
  | .cpxZp z => Sys2Proof.Machine.execCpxZp z s
  | .cpxAbs w => Sys2Proof.Machine.execCpxAbs w s
  | .cpyImm v => Sys2Proof.Machine.execCpyImm v s
  | .cpyZp z => Sys2Proof.Machine.execCpyZp z s
  | .cpyAbs w => Sys2Proof.Machine.execCpyAbs w s
  | .jmpAbs w => Sys2Proof.Machine.execJmpAbs w s
  | .jmpInd p => Sys2Proof.Machine.execJmpInd p s
  | .jsr w => Sys2Proof.Machine.execJsr w s
  | .rts => Sys2Proof.Machine.execRts s
  | .rti => Sys2Proof.Machine.execRti s
  | .nop => Sys2Proof.Machine.execNop s

end Sys2Proof.Machine
end

