-- ==== Sys2Proof/Machine/Fetch.lean ====
section
/-! DEFINITION. Fetching the instruction at PC (R50, R69, R70, R79), and placing a table word where the next step
fetches it. -/

namespace Sys2Proof.Machine

/-- The bytes a step reads for its instruction: the opcode at PC and the operand bytes that the entry's length covers, and
no others (R50, R69). -/
def fetchBytes (s : State) : List Byte :=
  let op := s.peek s.pc
  match lookup s.cfg.extNmos op with
  | none => [op]
  | some e => [op, s.peek (s.pc + 1), s.peek (s.pc + 2)].take e.length

/-- The instruction at PC, or why there is none (R79). -/
def fetch (s : State) : Except Reject Instr :=
  match decode s.cfg.extNmos (fetchBytes s) with
  | .ok (i, _) => .ok i
  | .error r => .error r

/-- The bytes written at consecutive addresses from `a` on, wrapping modulo 65536. -/
def pokeBytes (s : State) (a : Word) : List Byte → State
  | [] => s
  | v :: vs => pokeBytes (s.poke a v) (a + 1) vs

/-- A table word stored at PC, the bits above `nbits` zero. The table holds an extension opcode only under `EXT_NMOS`, so
for one of those the parameter is set too (assumption 3); for every other opcode the parameters stay as they are. -/
def placeFetchWord (s : State) (nbits w : Nat) : State :=
  let bytes := tableBytes nbits w
  let needsExt := (lookup false (bytes.headD 0)).isNone && (lookup true (bytes.headD 0)).isSome
  let s1 := pokeBytes s s.pc bytes
  if needsExt then { s1 with cfg := { s1.cfg with extNmos := true } } else s1

end Sys2Proof.Machine
end

