-- ==== Sys2Proof/Machine/Step.lean ====
section
/-! DEFINITION. One step of the machine (R79): fetch and decode, then the executor; a byte with no entry is a decode error
that changes nothing (R301, R302). -/

namespace Sys2Proof.Machine

/-- `step()` (R14, R79). -/
def step (s : State) : Host.Outcome State Fault Refusal :=
  match fetch s with
  | .ok i => exec i s
  | .error _ => .fault (.decodeError (s.peek s.pc) s.pc)

/-- The state in which the very next step fetches the table word `w` of `nbits` bits. -/
def State.withFetchWord (s : State) (nbits w : Nat) : State := placeFetchWord s nbits w

end Sys2Proof.Machine
end

