-- ==== Sys2Proof/Machine/Cost.lean ====
section
/-! DEFINITION. The cost a completed step returns, read off the cost table (R80, R411) apart from the executors: the base
cycles and the penalty that the entry's class names. The host's `step` returns it as `Ok(cost)` (R14, R320). -/

namespace Sys2Proof.Machine

/-- The predicate of a branch: the flag it tests and the value it asks for (R151 to R158). -/
def branchTest : Mnemonic → Option (Byte × Bool)
  | .BPL => some (maskN, false)
  | .BMI => some (maskN, true)
  | .BVC => some (maskV, false)
  | .BVS => some (maskV, true)
  | .BCC => some (maskC, false)
  | .BCS => some (maskC, true)
  | .BNE => some (maskZ, false)
  | .BEQ => some (maskZ, true)
  | _ => none

/-- Is the instruction a taken branch in this state (R150). -/
def branchTaken (i : Instr) (s : State) : Bool :=
  match branchTest i.entry.mnemonic with
  | some (m, v) => flagGet m s.flags == v
  | none => false

/-- The penalty cycles of R411: `+p`, `+w` and `+b`. -/
def costPenalty (i : Instr) (s : State) : Nat :=
  match i.entry.penalty, i.operand with
  | .read, .memory f => if crosses f s then 1 else 0
  | .write, .memory f => if crosses f s && s.cfg.penaltyOnWrite then 1 else 0
  | .branch, .relative d =>
    if branchTaken i s then (if pageCross (branchBase s) (branchTarget d s) then 2 else 1) else 0
  | _, _ => 0

/-- The cost of the step that runs the instruction in this state (R80). -/
def stepCost (i : Instr) (s : State) : Nat := i.entry.baseCycles + costPenalty i s

end Sys2Proof.Machine
end

