-- ==== Sys2Proof/Machine/Disassembler.lean ====
section
/-! DEFINITION. The disassembler (R82 to R85): text and length of the instruction at an address, from the same opcode
table and the same decoder as the step engine. -/

namespace Sys2Proof.Machine

/-- What `disassemble` returns (R84): an instruction's text, or the raw-byte variant; both with the length. -/
inductive Disassembly where
  | instr (text : String) (length : Nat)
  | raw (text : String) (length : Nat)
  deriving DecidableEq, Repr

/-- The mnemonic in upper case (R83). -/
def mnemonicText : Mnemonic → String
  | .LDA => "LDA" | .LDX => "LDX" | .LDY => "LDY" | .STA => "STA"
  | .STX => "STX" | .STY => "STY" | .INC => "INC" | .DEC => "DEC"
  | .INX => "INX" | .INY => "INY" | .DEX => "DEX" | .DEY => "DEY"
  | .TAX => "TAX" | .TAY => "TAY" | .TXA => "TXA" | .TYA => "TYA"
  | .TSX => "TSX" | .TXS => "TXS" | .CLC => "CLC" | .SEC => "SEC"
  | .CLI => "CLI" | .SEI => "SEI" | .CLD => "CLD" | .SED => "SED"
  | .CLV => "CLV" | .PHA => "PHA" | .PHP => "PHP" | .PLA => "PLA"
  | .PLP => "PLP" | .BPL => "BPL" | .BMI => "BMI" | .BVC => "BVC"
  | .BVS => "BVS" | .BCC => "BCC" | .BCS => "BCS" | .BNE => "BNE"
  | .BEQ => "BEQ" | .BRK => "BRK" | .ADC => "ADC" | .SBC => "SBC"
  | .ASL => "ASL" | .LSR => "LSR" | .ROL => "ROL" | .ROR => "ROR"
  | .ORA => "ORA" | .AND => "AND" | .EOR => "EOR" | .BIT => "BIT"
  | .CMP => "CMP" | .CPX => "CPX" | .CPY => "CPY" | .JMP => "JMP"
  | .JSR => "JSR" | .RTS => "RTS" | .RTI => "RTI" | .NOP => "NOP"

/-- One upper-case hexadecimal digit. -/
def hexDigit (n : Nat) : Char := if n < 10 then Char.ofNat (48 + n) else Char.ofNat (55 + n)

/-- `HH`: a byte as two hexadecimal digits (R83). -/
def hexByte (b : Byte) : String := String.ofList [hexDigit (b.toNat / 16), hexDigit (b.toNat % 16)]

/-- `HHHH`: a word as four hexadecimal digits (R83). -/
def hexWord (w : Word) : String := hexByte (hi w) ++ hexByte (lo w)

/-- A number of at most three decimal digits, with no leading zero. -/
def decimalText (n : Nat) : String :=
  let d := fun k => Char.ofNat (48 + k % 10)
  if n < 10 then String.ofList [d n]
  else if n < 100 then String.ofList [d (n / 10), d n]
  else String.ofList [d (n / 100), d (n / 10), d n]

/-- A displacement as a signed decimal integer: a leading `-` if negative, no sign otherwise (R83). -/
def signedText (d : Byte) : String :=
  if d.msb then "-" ++ decimalText (256 - d.toNat) else decimalText d.toNat

/-- The operand text of a memory form, after its space (R83). -/
def memFormText : MemForm → String
  | .zeroPage z => " $" ++ hexByte z
  | .zeroPageX z => " $" ++ hexByte z ++ ", X"
  | .zeroPageY z => " $" ++ hexByte z ++ ", Y"
  | .absolute w => " $" ++ hexWord w
  | .absoluteX w => " $" ++ hexWord w ++ ", X"
  | .absoluteY w => " $" ++ hexWord w ++ ", Y"
  | .preIndexed z => " ($" ++ hexByte z ++ ", X)"
  | .postIndexed z => " ($" ++ hexByte z ++ "), Y"

/-- The operand text, with the space that comes before it (R83). -/
def operandText : Operand → String
  | .implicit => ""
  | .immediate v => " #$" ++ hexByte v
  | .memory f => memFormText f
  | .indirect p => " ($" ++ hexWord p ++ ")"
  | .relative d => " " ++ signedText d

/-- The text of an instruction (R83). -/
def instrText (i : Instr) : String := mnemonicText i.entry.mnemonic ++ operandText i.operand

/-- `disassemble(state, addr)` (R82): the entry's text and length, or the raw byte with length 1 (R84). -/
def disassemble (s : State) (addr : Word) : Disassembly :=
  match decode s.cfg.extNmos [s.peek addr, s.peek (addr + 1), s.peek (addr + 2)] with
  | .ok (i, _) => .instr (instrText i) i.entry.length
  | .error _ => .raw ("db $" ++ hexByte (s.peek addr)) 1

end Sys2Proof.Machine
end

