-- ==== Sys2Proof/Machine/Reset.lean ====
section
/-! DEFINITION. The two resets (R400, R401): host calls between steps, not steps (R402). -/

namespace Sys2Proof.Machine

/-- `hardReset(resetAddr)` of a machine built with these parameters (R400): everything zero, the reset vector written, SP at
0xFF, PC loaded from the vector, CYC zero. -/
def hardReset (p : Params) (resetAddr : Word) : State where
  a := 0x00
  x := 0x00
  y := 0x00
  sp := resetSp
  pc := (resetMemory resetAddr).peekWord resetVector
  flags := 0x00
  mem := resetMemory resetAddr
  cyc := 0
  cfg := p

/-- `softReset()` (R401): only SP and PC, the vector read as memory holds it now. -/
def softReset (s : State) : State := { s with sp := resetSp, pc := s.peekWord resetVector }

end Sys2Proof.Machine
end

