-- ==== Sys2Proof/Machine/HostCalls.lean ====
section
/-! DEFINITION. The host's interface (R320): what the caller of the block may do between steps and what it gets back. -/

namespace Sys2Proof.Machine

/-- The host's interactions, one constructor per row of R320's table; the accessors are those of R30, R31 and R46. -/
inductive HostCall where
  | step
  | hardReset (resetAddr : Word)
  | softReset
  | disassemble (addr : Word)
  | readReg (r : Reg8)
  | writeReg (r : Reg8) (v : Byte)
  | readPc
  | writePc (w : Word)
  | flagGet (mask : Byte)
  | flagSet (mask : Byte) (v : Bool)
  | peekByte (a : Word)
  | pokeByte (a : Word) (v : Byte)
  | peekWord (a : Word)
  | pokeWord (a : Word) (w : Word)
  | readCyc
  deriving DecidableEq, Repr

/-- What the block returns (R14, R320). -/
inductive HostReply where
  | ok (cost : Nat)
  | decodeError (opcode : Byte) (addr : Word)
  | refused (r : Refusal)
  | text (d : Disassembly)
  | byte (v : Byte)
  | word (w : Word)
  | bit (b : Bool)
  | cycles (n : Nat)
  | done
  deriving DecidableEq, Repr

/-- The block over its life: before its first hard reset its contents are unspecified and it has no State (R403). -/
inductive Block where
  | unreset (p : Params)
  | running (s : State)
  deriving DecidableEq, Repr

/-- The host's `step`: the outcome of R14, the state kept by a decode error (R302) and by a refusal (R319). -/
def hostStep (s : State) : State × HostReply :=
  match fetch s with
  | .error _ => (s, .decodeError (s.peek s.pc) s.pc)
  | .ok i =>
    match exec i s with
    | .next t => (t, .ok (stepCost i s))
    | .fault (.decodeError op a) => (s, .decodeError op a)
    | .refused r => (s, .refused r)

/-- One call on a running block. -/
def hostCallRunning (s : State) : HostCall → State × HostReply
  | .step => hostStep s
  | .hardReset w => (hardReset s.cfg w, .done)
  | .softReset => (softReset s, .done)
  | .disassemble w => (s, .text (disassemble s w))
  | .readReg r => (s, .byte (s.reg r))
  | .writeReg r v => (s.setReg r v, .done)
  | .readPc => (s, .word s.pc)
  | .writePc w => (s.setPc w, .done)
  | .flagGet m => (s, .bit (flagGet m s.flags))
  | .flagSet m v => (s.setFlags (flagSet m v s.flags), .done)
  | .peekByte w => (s, .byte (s.peek w))
  | .pokeByte w v => (s.poke w v, .done)
  | .peekWord w => (s, .word (s.peekWord w))
  | .pokeWord w v => (s.pokeWord w v, .done)
  | .readCyc => (s, .cycles s.cyc)

/-- One host call. Before the first hard reset every other call is refused (R403). -/
def hostCall (c : HostCall) : Block → Block × HostReply
  | .running s => (.running (hostCallRunning s c).1, (hostCallRunning s c).2)
  | .unreset p =>
    match c with
    | .hardReset w => (.running (hardReset p w), .done)
    | _ => (.unreset p, .refused .beforeHardReset)

/-- A sequence of host calls, the last block kept: the boot order of R405 is one. -/
def hostCalls : List HostCall → Block → Block
  | [], b => b
  | c :: cs, b => hostCalls cs (hostCall c b).1

end Sys2Proof.Machine
end

