-- ==== Sys2Proof/Machine/Run.lean ====
section
/-! DEFINITION. A run and how it ends (R318): normally at a decode error at `HALT_ADDR`, at a fault anywhere else; a refusal
ends it and stays (R319). -/

namespace Sys2Proof.Machine

/-- How far a run got. -/
inductive RunEnd where
  /-- The normal end; the state is the final one (R318). -/
  | halted (s : State)
  /-- A decode error at another address; the state is not final (R318). -/
  | faulted (f : Fault) (s : State)
  /-- A refused step (R319). -/
  | refused (r : Refusal) (s : State)
  /-- The steps allowed are used up; a run that stays so for every number of steps is a hang (R318). -/
  | running (s : State)
  deriving DecidableEq, Repr

/-- At most `n` steps of a run whose launch names `HALT_ADDR` (R8, R318). -/
def runTo (haltAddr : Word) : Nat → State → RunEnd
  | 0, s => .running s
  | n + 1, s =>
    match step s with
    | .next t => runTo haltAddr n t
    | .fault (.decodeError op a) => if a = haltAddr then .halted s else .faulted (.decodeError op a) s
    | .refused r => .refused r s

end Sys2Proof.Machine
end

