-- ==== Sys2Proof/WellFormed.lean ====
section
/-! DEFINITION. Which instructions are well formed. Every operand field is as wide as its format says (R70), so the one
check left is that the opcode table holds the instruction's entry (R74, R75). -/

namespace Sys2Proof

/-- The instruction has an entry in the table under this value of `EXT_NMOS`. -/
def Instr.wellFormed (ext : Bool) (i : Instr) : Bool := i.entry.present ext

end Sys2Proof
end

