-- ==== Sys2Proof/Safety.lean ====
section
/-! DEFINITION. What a good state and a safe run are, and the words the statements use for what a step leaves behind. -/

namespace Sys2Proof.Machine

/-- What the model's data means on this hardware: memory is in canonical form (R41) and CYC fits its width (R27). -/
def Inv (s : State) : Prop := s.mem.wf = true ∧ s.cyc < 2 ^ s.cfg.cycWidth

/-- A run that meets no fault and no refusal in its first `n` steps: it still runs or ended at `HALT_ADDR` (R318, R319). -/
def SafeRun (haltAddr : Word) (n : Nat) (s : State) : Prop :=
  (∃ t, runTo haltAddr n s = .running t) ∨ ∃ t, runTo haltAddr n s = .halted t

/-- Does the executor of this mnemonic ever own the PC update: a branch, BRK, JMP, JSR, RTS or RTI (R79). -/
def mayOwnPc : Mnemonic → Bool
  | .BPL | .BMI | .BVC | .BVS | .BCC | .BCS | .BNE | .BEQ | .BRK | .JMP | .JSR | .RTS | .RTI => true
  | _ => false

/-- Zero and Negative describe the byte `v`, and every other flag is as it was (R28). -/
def ZNFollow (v before after : Byte) : Prop :=
  after.getLsbD 1 = (v == 0) ∧ after.getLsbD 7 = v.msb ∧
    ∀ k, k ≠ 1 → k ≠ 7 → after.getLsbD k = before.getLsbD k

/-- Carry is `c`, Zero and Negative describe `v`, and every other flag is as it was. -/
def CZNFollow (c : Bool) (v before after : Byte) : Prop :=
  after.getLsbD 0 = c ∧ after.getLsbD 1 = (v == 0) ∧ after.getLsbD 7 = v.msb ∧
    ∀ k, k ≠ 0 → k ≠ 1 → k ≠ 7 → after.getLsbD k = before.getLsbD k

/-- Every byte of memory reads as before. -/
def SameMemory (s t : State) : Prop := ∀ b : Word, t.peek b = s.peek b

/-- The epilogue of a step whose executor leaves PC alone: PC moves past the instruction, CYC grows by the cost, and the
parameters stay (R79, R313). -/
def Passes (i : Instr) (s t : State) : Prop :=
  t.pc = s.pc + BitVec.ofNat 16 i.entry.length ∧ t.cyc = (s.cyc + stepCost i s) % 2 ^ s.cfg.cycWidth ∧ t.cfg = s.cfg

/-- The epilogue of a step whose executor sets PC (R79, R313). -/
def Transfers (i : Instr) (target : Word) (s t : State) : Prop :=
  t.pc = target ∧ t.cyc = (s.cyc + stepCost i s) % 2 ^ s.cfg.cycWidth ∧ t.cfg = s.cfg

end Sys2Proof.Machine
end

