-- ==== Sys2Proof/Certificates/Slice0/Obligations.lean ====
section
/-! DEFINITION. The statements for the provers. Flags is read bit by bit: bit 0 C, 1 Z, 2 I, 3 D, 4 B, 5 U, 6 V, 7 N
(R26). Every statement about every state holds for every setting of the parameters of R8, which State carries. A
docstring's last words name the decisions D<n> of 92_eei_decisions.md, the spec's own and not its source's, that the statement rests
on; every statement about opcodes rests on D1 and every cost on D3 (assumption 5). -/

open Sys2Proof Sys2Proof.Machine

/-! ### Encoding and decoding -/

/-- 30_encoding.md: what the encoder writes, the decoder reads back, with every operand and whatever follows.
Decisions: D1. -/
def Obligations.EncodeThenDecodeGivesTheInstruction : Prop :=
  ∀ (ext : Bool) (i : Instr) (rest : List Byte),
    i.wellFormed ext = true → decode ext (encode i ++ rest) = .ok (i, rest)

/-- 30_encoding.md: bytes that decode are the encoding of what they decode to, and only well-formed instructions
decode. Decisions: D1. -/
def Obligations.DecodeThenEncodeGivesTheBytes : Prop :=
  ∀ (ext : Bool) (bytes rest : List Byte) (i : Instr),
    decode ext bytes = .ok (i, rest) → i.wellFormed ext = true ∧ bytes = encode i ++ rest

/-- Words written out from the encoding tables: LDA #, STA abs,X, ASL zp, BNE, JMP (ind), ADC (zp),Y. Decisions: D1,
D2. -/
def Obligations.SpecWordsDecodeToTheirInstructions : Prop :=
  decode false [0xA9, 0x05] = .ok (.ldaImm 0x05, []) ∧
  decode false [0x9D, 0xF0, 0x20] = .ok (.staAbx 0x20F0, []) ∧
  decode false [0x06, 0x10] = .ok (.aslZp 0x10, []) ∧
  decode false [0xD0, 0xFD] = .ok (.bne 0xFD, []) ∧
  decode true [0x6C, 0x34, 0x12] = .ok (.jmpInd 0x1234, []) ∧
  decode false [0x71, 0x20, 0x02] = .ok (.adcIzy 0x20, [0x02])

/-- R76 with R75: the bytes with no entry are the 105 always invalid ones and, without `EXT_NMOS`, the 46 extension
ones. Decisions: D1, D2. -/
def Obligations.OpcodesWithoutAnEntryAreTheListedOnes : Prop :=
  ∀ (ext : Bool) (op : Byte), lookup ext op = none ↔
    (op.toNat ∈ [0x02, 0x03, 0x04, 0x07, 0x0B, 0x0C, 0x0F, 0x12, 0x13, 0x14, 0x17, 0x1A, 0x1B, 0x1C, 0x1F,
        0x22, 0x23, 0x27, 0x2B, 0x2F, 0x32, 0x33, 0x34, 0x37, 0x3A, 0x3B, 0x3C, 0x3F] ∨
      op.toNat ∈ [0x42, 0x43, 0x44, 0x47, 0x4B, 0x4F, 0x52, 0x53, 0x54, 0x57, 0x5A, 0x5B, 0x5C, 0x5F,
        0x62, 0x63, 0x64, 0x67, 0x6B, 0x6F, 0x72, 0x73, 0x74, 0x77, 0x7A, 0x7B, 0x7C, 0x7F] ∨
      op.toNat ∈ [0x80, 0x82, 0x83, 0x87, 0x89, 0x8B, 0x8F, 0x92, 0x93, 0x97, 0x9B, 0x9C, 0x9E, 0x9F,
        0xA3, 0xA7, 0xAB, 0xAF, 0xB2, 0xB3, 0xB7, 0xBB, 0xBF] ∨
      op.toNat ∈ [0xC2, 0xC3, 0xC7, 0xCB, 0xCF, 0xD2, 0xD3, 0xD4, 0xD7, 0xDA, 0xDB, 0xDC, 0xDF,
        0xE2, 0xE3, 0xE7, 0xEB, 0xEF, 0xF2, 0xF3, 0xF4, 0xF7, 0xFA, 0xFB, 0xFC, 0xFF]) ∨
    (ext = false ∧
      (op.toNat ∈ [0x01, 0x05, 0x09, 0x0D, 0x11, 0x15, 0x19, 0x1D, 0x20, 0x21, 0x24, 0x25, 0x29, 0x2C, 0x2D,
        0x31, 0x35, 0x39, 0x3D, 0x40, 0x41, 0x45, 0x49, 0x4C, 0x4D] ∨
       op.toNat ∈ [0x51, 0x55, 0x59, 0x5D, 0x60, 0x6C, 0xC0, 0xC1, 0xC4, 0xC5, 0xC9, 0xCC, 0xCD, 0xD1, 0xD5,
        0xD9, 0xDD, 0xE0, 0xE4, 0xEA, 0xEC]))

/-! ### The step -/

/-- R79: when the bytes at PC decode to an instruction, the step is that instruction's executor; `exec` holds the
epilogue. Decisions: D18. -/
def Obligations.StepRunsTheDecodedInstruction : Prop :=
  ∀ (s : State) (i : Instr) (rest : List Byte),
    decode s.cfg.extNmos [s.peek s.pc, s.peek (s.pc + 1), s.peek (s.pc + 2)] = .ok (i, rest) → step s = exec i s

/-- R301, R302: a step faults exactly when the byte at PC has no entry, the record is that byte and PC, and the host
finds the state as it was. Decisions: D14 for CYC. -/
def Obligations.DecodeErrorReportsTheByteAndChangesNothing : Prop :=
  ∀ (s : State) (f : Fault),
    (step s = .fault f ↔
      lookup s.cfg.extNmos (s.peek s.pc) = none ∧ f = .decodeError (s.peek s.pc) s.pc) ∧
    (lookup s.cfg.extNmos (s.peek s.pc) = none → hostStep s = (s, .decodeError (s.peek s.pc) s.pc))

/-- R173, R319: a refusal is an ADC or SBC with Decimal 1 under `DECIMAL_MODE = refuse`, and nothing else. Decisions:
D5. -/
def Obligations.OnlyDecimalArithmeticIsRefused : Prop :=
  ∀ (i : Instr) (s : State) (r : Refusal), exec i s = .refused r ↔
    r = .decimalMode ∧ (i.entry.mnemonic = .ADC ∨ i.entry.mnemonic = .SBC) ∧
      s.cfg.decimalMode = .refuse ∧ s.flags.getLsbD 3 = true

/-- R81, R319: with the default `DECIMAL_MODE`, every instruction of the table completes in every state. Decisions:
D5. -/
def Obligations.EveryInstructionCompletesInBinaryMode : Prop :=
  ∀ (i : Instr) (s : State), s.cfg.decimalMode = .binary → ∃ t, exec i s = .next t

/-- R25: a step leaves PC past the instruction unless its executor set PC: a taken branch, BRK, JMP, JSR, RTS or RTI.
Decisions: D4. -/
def Obligations.StepMovesPcPastTheInstruction : Prop :=
  ∀ (i : Instr) (s t : State), exec i s = .next t →
    (mayOwnPc i.entry.mnemonic = false ∨ (branchTest i.entry.mnemonic ≠ none ∧ branchTaken i s = false)) →
      t.pc = s.pc + BitVec.ofNat 16 i.entry.length

/-- R27, R313: each completed step adds its cost to CYC modulo 2^CYC_WIDTH, and the host's `Ok` carries that cost.
Decisions: D3, D14. -/
def Obligations.CompletedStepAddsItsCost : Prop :=
  ∀ (i : Instr) (s t : State), exec i s = .next t →
    t.cyc = (s.cyc + stepCost i s) % 2 ^ s.cfg.cycWidth ∧
      (fetch s = .ok i → hostStep s = (t, .ok (stepCost i s)))

/-- R411: a step costs 2 to 8 cycles, and 2 to 7 with `PENALTY_ON_WRITE` false. Decisions: D3, D10. -/
def Obligations.StepCostsTwoToEightCycles : Prop :=
  ∀ (i : Instr) (s : State), 2 ≤ stepCost i s ∧ stepCost i s ≤ 8 ∧
    (s.cfg.penaltyOnWrite = false → stepCost i s ≤ 7)

/-! ### Rules of the whole machine -/

/-- R41, R27: memory's canonical form and CYC's width are kept by every step, and by every call the host makes between
steps: the writes of memory, registers and flags by which a launch sets up a program (R30, R31, R46, R405), both resets
and the rest (R320). Decisions: D14; the canonical form is the model's (assumption 4). -/
def Obligations.EveryStepKeepsTheInvariant : Prop :=
  ∀ s : State, Inv s → (∀ t, step s = .next t → Inv t) ∧ ∀ c : HostCall, Inv (hostCallRunning s c).1

/-- The invariant holds right after the hard reset, for every setting of the parameters and every reset address.
Decisions: D14; the canonical form is the model's (assumption 4), and so is the address of `State.reset` (assumption
2). -/
def Obligations.HardResetMeetsTheInvariant : Prop :=
  Inv State.reset ∧ ∀ (p : Params) (w : Word), Inv (hardReset p w)

/-- R410 with R27 and R313: no state but CYC depends on CYC: with another count, the step does the same, each count
grows by one and the same cost modulo 2^CYC_WIDTH, and CYC alone differs. Decisions: D14. -/
def Obligations.NothingButCycDependsOnCyc : Prop :=
  ∀ (s t : State) (n : Nat), step s = .next t →
    ∃ k, t.cyc = (s.cyc + k) % 2 ^ s.cfg.cycWidth ∧
      step { s with cyc := n } = .next { t with cyc := (n + k) % 2 ^ s.cfg.cycWidth }

/-- R62: `PENALTY_ON_WRITE` touches the cost alone. Decisions: D10. -/
def Obligations.PenaltyOnWriteTouchesOnlyTheCost : Prop :=
  ∀ (s t : State) (b : Bool), step s = .next t →
    ∃ u, step { s with cfg := { s.cfg with penaltyOnWrite := b } } = .next u ∧
      { u with cyc := t.cyc, cfg := t.cfg } = t

/-- R306: Flags.I decides nothing: with the bit inverted, the step completes with the same registers, PC, CYC and
parameters, and the same flags but for bit 2. Every byte of memory is the same but the one byte of flags that PHP
pushes at 0x0100 + SP, or BRK, as its third, at 0x0100 + (SP - 2 modulo 256); in canonical memory that byte differs
at most in bit 2.
Decisions: D13; the canonical form is the model's (assumption 4). -/
def Obligations.InterruptDisableDecidesNothing : Prop :=
  ∀ (i : Instr) (s t : State), exec i s = .next t →
    ∃ u, exec i { s with flags := s.flags ^^^ 0x04 } = .next u ∧
      u.a = t.a ∧ u.x = t.x ∧ u.y = t.y ∧ u.sp = t.sp ∧ u.pc = t.pc ∧ u.cyc = t.cyc ∧ u.cfg = t.cfg ∧
      (∀ k, k ≠ 2 → u.flags.getLsbD k = t.flags.getLsbD k) ∧
      (∀ b : Word, (i.entry.mnemonic = .PHP → b ≠ 0x0100 + s.sp.setWidth 16) →
        (i.entry.mnemonic = .BRK → b ≠ 0x0100 + (s.sp - 2).setWidth 16) → u.peek b = t.peek b) ∧
      (s.mem.wf = true → ∀ (b : Word) (k : Nat), k ≠ 2 → (u.peek b).getLsbD k = (t.peek b).getLsbD k)

/-- R26's written-by column, which the spec derives from its instruction rules: an instruction that the column does
not list for a bit leaves that bit as it was. Decisions: D2, D12. -/
def Obligations.FlagsChangeOnlyByTheirWriters : Prop :=
  ∀ (i : Instr) (s t : State) (k : Nat) (writers : List Mnemonic), exec i s = .next t →
    (k, writers) ∈ [
      (0, [Mnemonic.ADC, .SBC, .ASL, .LSR, .ROL, .ROR, .CLC, .SEC, .PLP, .CMP, .CPX, .CPY, .RTI]),
      (1, [.LDA, .LDX, .LDY, .INC, .DEC, .INX, .INY, .DEX, .DEY, .TAX, .TAY, .TXA, .TYA, .TSX, .PLA, .ADC, .SBC, .ASL,
        .LSR, .ROL, .ROR, .PLP, .ORA, .AND, .EOR, .BIT, .CMP, .CPX, .CPY, .RTI]),
      (2, [.CLI, .SEI, .BRK, .PLP, .RTI]),
      (3, [.CLD, .SED, .PLP, .RTI]),
      (4, [.PLP, .RTI]),
      (5, [.PLP, .RTI]),
      (6, [.ADC, .SBC, .CLV, .PLP, .BIT, .RTI]),
      (7, [.LDA, .LDX, .LDY, .INC, .DEC, .INX, .INY, .DEX, .DEY, .TAX, .TAY, .TXA, .TYA, .TSX, .PLA, .ADC, .SBC, .ASL,
        .LSR, .ROL, .ROR, .PLP, .ORA, .AND, .EOR, .BIT, .CMP, .CPX, .CPY, .RTI])] →
    i.entry.mnemonic ∉ writers → t.flags.getLsbD k = s.flags.getLsbD k

/-- R23 and R24, which the spec derives from its instruction rules: an instruction not listed as a writer of A, X, Y
or SP leaves that register as it was. Decisions: D2. -/
def Obligations.RegistersChangeOnlyByTheirWriters : Prop :=
  ∀ (i : Instr) (s t : State) (r : Reg8) (writers : List Mnemonic), exec i s = .next t →
    (r, writers) ∈ [
      (Reg8.a, [Mnemonic.LDA, .TXA, .TYA, .PLA, .ADC, .SBC, .ASL, .LSR, .ROL, .ROR, .ORA, .AND, .EOR]),
      (.x, [.LDX, .TAX, .TSX, .INX, .DEX]),
      (.y, [.LDY, .TAY, .INY, .DEY]),
      (.sp, [.TXS, .PHA, .PHP, .PLA, .PLP, .BRK, .JSR, .RTS, .RTI])] →
    i.entry.mnemonic ∉ writers → t.reg r = s.reg r

/-- Only the stores, INC, DEC, the memory shifts, the pushes, BRK and JSR write memory. Decisions: D2. -/
def Obligations.OnlyStoringInstructionsWriteMemory : Prop :=
  ∀ (i : Instr) (s t : State), exec i s = .next t →
    i.entry.mnemonic ∉ [Mnemonic.STA, .STX, .STY, .INC, .DEC, .PHA, .PHP, .BRK, .JSR] →
    (i.entry.mnemonic ∈ [Mnemonic.ASL, .LSR, .ROL, .ROR] → i.operand = .implicit) → SameMemory s t

/-- R24: no stack access ever leaves page 0x01: PHA, PHP, BRK and JSR write there alone, whatever SP is. -/
def Obligations.StackWritesStayInTheStackPage : Prop :=
  ∀ (i : Instr) (s t : State), exec i s = .next t → i.entry.mnemonic ∈ [Mnemonic.PHA, .PHP, .BRK, .JSR] →
    ∀ b : Word, hi b ≠ 0x01 → t.peek b = s.peek b

/-! ### Loads, stores, increments, transfers, flags -/

/-- R100 to R102: LDA, LDX and LDY load the operand into their register; Z and N follow it; nothing else changes.
Decisions: D3, D11. -/
def Obligations.LoadsPutTheOperandInTheRegister : Prop :=
  ∀ (i : Instr) (r : Reg8) (s : State),
    (i.entry.mnemonic, r) ∈ [(Mnemonic.LDA, Reg8.a), (.LDX, .x), (.LDY, .y)] →
    ∃ src t, i.operand.source? = some src ∧ exec i s = .next t ∧ t.reg r = sourceByte src s ∧
      ZNFollow (sourceByte src s) s.flags t.flags ∧ (∀ q, q ≠ r → q ≠ .flags → t.reg q = s.reg q) ∧
      SameMemory s t ∧ Passes i s t

/-- R103 to R105, R62: STA, STX and STY write their register at the effective address; no other byte, no register and
no flag changes. Decisions: D3, D10, D11. -/
def Obligations.StoresWriteTheRegisterAtTheAddress : Prop :=
  ∀ (i : Instr) (r : Reg8) (s : State), s.mem.wf = true →
    (i.entry.mnemonic, r) ∈ [(Mnemonic.STA, Reg8.a), (.STX, .x), (.STY, .y)] →
    ∃ f t, i.operand = .memory f ∧ exec i s = .next t ∧ t.peek (effectiveAddress f s) = s.reg r ∧
      (∀ b, b ≠ effectiveAddress f s → t.peek b = s.peek b) ∧ (∀ q, t.reg q = s.reg q) ∧ Passes i s t

/-- R110, R111: INC and DEC write the memory byte plus or minus 1 modulo 256; Z and N follow it; C and V stay.
Decisions: D3, D10. -/
def Obligations.IncAndDecChangeTheMemoryByte : Prop :=
  ∀ (i : Instr) (n : Nat) (s : State), s.mem.wf = true →
    (i.entry.mnemonic, n) ∈ [(Mnemonic.INC, 1), (.DEC, 255)] →
    ∃ f v t, i.operand = .memory f ∧ v.toNat = ((s.peek (effectiveAddress f s)).toNat + n) % 256 ∧
      exec i s = .next t ∧ t.peek (effectiveAddress f s) = v ∧
      (∀ b, b ≠ effectiveAddress f s → t.peek b = s.peek b) ∧ ZNFollow v s.flags t.flags ∧
      (∀ q, q ≠ .flags → t.reg q = s.reg q) ∧ Passes i s t

/-- R112 to R115: INX, INY, DEX and DEY change their register by one modulo 256; Z and N follow it. Decisions: D3. -/
def Obligations.RegisterIncrementsWrap : Prop :=
  ∀ (i : Instr) (r : Reg8) (n : Nat) (s : State),
    (i.entry.mnemonic, r, n) ∈ [(Mnemonic.INX, Reg8.x, 1), (.INY, .y, 1), (.DEX, .x, 255), (.DEY, .y, 255)] →
    ∃ t, exec i s = .next t ∧ (t.reg r).toNat = ((s.reg r).toNat + n) % 256 ∧
      ZNFollow (t.reg r) s.flags t.flags ∧ (∀ q, q ≠ r → q ≠ .flags → t.reg q = s.reg q) ∧
      SameMemory s t ∧ Passes i s t

/-- R120 to R124: TAX, TAY, TXA, TYA and TSX copy one register to another; Z and N follow the value; the source stays.
Decisions: D3. -/
def Obligations.TransfersCopyTheRegister : Prop :=
  ∀ (i : Instr) (src dst : Reg8) (s : State),
    (i.entry.mnemonic, src, dst) ∈ [(Mnemonic.TAX, Reg8.a, Reg8.x), (.TAY, .a, .y), (.TXA, .x, .a), (.TYA, .y, .a),
      (.TSX, .sp, .x)] →
    ∃ t, exec i s = .next t ∧ t.reg dst = s.reg src ∧ ZNFollow (s.reg src) s.flags t.flags ∧
      (∀ q, q ≠ dst → q ≠ .flags → t.reg q = s.reg q) ∧ SameMemory s t ∧ Passes i s t

/-- R125: TXS copies X into SP without flag effect. Decisions: D3. -/
def Obligations.TxsSetsTheStackPointerAlone : Prop :=
  ∀ s : State, ∃ t, exec .txs s = .next t ∧ t.sp = s.x ∧ (∀ q, q ≠ .sp → t.reg q = s.reg q) ∧
    SameMemory s t ∧ Passes .txs s t

/-- R130 to R136: each flag instruction writes exactly its one bit. Decisions: D3, and general knowledge for the
pairing of mnemonic and flag. -/
def Obligations.FlagInstructionsWriteOneBit : Prop :=
  ∀ (i : Instr) (k : Nat) (v : Bool) (s : State),
    (i.entry.mnemonic, k, v) ∈ [(Mnemonic.CLC, 0, false), (.SEC, 0, true), (.CLI, 2, false), (.SEI, 2, true),
      (.CLD, 3, false), (.SED, 3, true), (.CLV, 6, false)] →
    ∃ t, exec i s = .next t ∧ t.flags.getLsbD k = v ∧
      (∀ j, j ≠ k → t.flags.getLsbD j = s.flags.getLsbD j) ∧ (∀ q, q ≠ .flags → t.reg q = s.reg q) ∧
      SameMemory s t ∧ Passes i s t

/-! ### The stack -/

/-- R140, R141, R64: PHA and PHP write the register's byte, as stored, at 0x0100 + SP, then SP goes down by one modulo
256. Decisions: D3. -/
def Obligations.PushesStoreTheByteBelowTheStack : Prop :=
  ∀ (i : Instr) (r : Reg8) (s : State), s.mem.wf = true →
    (i.entry.mnemonic, r) ∈ [(Mnemonic.PHA, Reg8.a), (.PHP, .flags)] →
    ∃ t, exec i s = .next t ∧ t.peek (0x0100 + s.sp.setWidth 16) = s.reg r ∧
      (∀ b, b ≠ 0x0100 + s.sp.setWidth 16 → t.peek b = s.peek b) ∧ t.sp.toNat = (s.sp.toNat + 255) % 256 ∧
      (∀ q, q ≠ .sp → t.reg q = s.reg q) ∧ Passes i s t

/-- R142, R65: PLA takes the byte at the incremented SP; Z and N follow it. Decisions: D3. -/
def Obligations.PlaPullsTheAccumulator : Prop :=
  ∀ s : State, ∃ t, exec .pla s = .next t ∧ t.sp.toNat = (s.sp.toNat + 1) % 256 ∧
    t.a = s.peek (0x0100 + t.sp.setWidth 16) ∧ ZNFollow t.a s.flags t.flags ∧ t.x = s.x ∧ t.y = s.y ∧
    SameMemory s t ∧ Passes .pla s t

/-- R143: PLP takes all flags from the byte at the incremented SP, but Break becomes 0. Decisions: D3, D12. -/
def Obligations.PlpPullsTheFlagsWithBreakLow : Prop :=
  ∀ s : State, ∃ t, exec .plp s = .next t ∧ t.sp.toNat = (s.sp.toNat + 1) % 256 ∧ t.flags.getLsbD 4 = false ∧
    (∀ k, k ≠ 4 → t.flags.getLsbD k = (s.peek (0x0100 + t.sp.setWidth 16)).getLsbD k) ∧
    t.a = s.a ∧ t.x = s.x ∧ t.y = s.y ∧ SameMemory s t ∧ Passes .plp s t

/-- R64: `Push(v)` writes `v` at 0x0100 + SP and no other byte, then takes 1 from SP modulo 256; after 256 pushes SP
is back where it started. -/
def Obligations.PushWritesBelowTheStackAndWraps : Prop :=
  (∀ (s : State) (v : Byte), s.mem.wf = true →
    (s.push v).peek (0x0100 + s.sp.setWidth 16) = v ∧
    (∀ b, b ≠ 0x0100 + s.sp.setWidth 16 → (s.push v).peek b = s.peek b) ∧
    (s.push v).sp.toNat = (s.sp.toNat + 255) % 256 ∧ (∀ q, q ≠ .sp → (s.push v).reg q = s.reg q) ∧
    (s.push v).pc = s.pc) ∧
  ∀ (s : State) (vs : List Byte), vs.length = 256 → (vs.foldl State.push s).sp = s.sp

/-- R64 to R66: a pull returns the byte or the word just pushed and restores SP, from every SP. Decisions: D9 for the
16-bit order. -/
def Obligations.PullReturnsWhatWasPushed : Prop :=
  ∀ (s : State) (v : Byte) (w : Word), s.mem.wf = true →
    (s.push v).pulled = v ∧ (s.push v).pull.sp = s.sp ∧ (s.push16 w).pulled16 = w ∧ (s.push16 w).pull16.sp = s.sp

/-! ### Control flow and the trap -/

/-- R150 to R158: a branch is taken exactly on its flag; it then goes to the base plus the sign-extended displacement
at 3 cycles, or 4 across a page; otherwise PC passes it at 2 cycles. No register, flag or byte changes. Decisions: D3,
D6, D7. -/
def Obligations.BranchesFollowTheirFlag : Prop :=
  ∀ (i : Instr) (k : Nat) (v : Bool) (s : State),
    (i.entry.mnemonic, k, v) ∈ [(Mnemonic.BPL, 7, false), (.BMI, 7, true), (.BVC, 6, false), (.BVS, 6, true),
      (.BCC, 0, false), (.BCS, 0, true), (.BNE, 1, false), (.BEQ, 1, true)] →
    ∃ d t, i.operand = .relative d ∧ exec i s = .next t ∧ (∀ q, t.reg q = s.reg q) ∧ SameMemory s t ∧ t.cfg = s.cfg ∧
      (s.flags.getLsbD k = v →
        t.pc = s.pc + s.cfg.branchBaseOffset.toWord + d.signExtend 16 ∧
        t.cyc = (s.cyc + (if hi (s.pc + s.cfg.branchBaseOffset.toWord) = hi t.pc then 3 else 4)) %
          2 ^ s.cfg.cycWidth) ∧
      (s.flags.getLsbD k ≠ v → t.pc = s.pc + 2 ∧ t.cyc = (s.cyc + 2) % 2 ^ s.cfg.cycWidth)

/-- R160: BRK pushes the return address, high byte first, and the flags with Break forced high, sets Flags.I alone,
and goes where the interrupt-request vector points, at 7 cycles; SP goes down by three modulo 256. Decisions: D3, D8,
D9, D12. -/
def Obligations.BrkSavesAndGoesThroughTheVector : Prop :=
  ∀ s : State, s.mem.wf = true →
    ∃ t, exec .brk s = .next t ∧
      t.peek (0x0100 + s.sp.setWidth 16) = hi (s.pc + s.cfg.brkPushOffset.toWord) ∧
      t.peek (0x0100 + (s.sp - 1).setWidth 16) = lo (s.pc + s.cfg.brkPushOffset.toWord) ∧
      t.peek (0x0100 + (s.sp - 2).setWidth 16) = (s.flags ||| 0x10) ∧
      (∀ b, b ≠ 0x0100 + s.sp.setWidth 16 → b ≠ 0x0100 + (s.sp - 1).setWidth 16 →
        b ≠ 0x0100 + (s.sp - 2).setWidth 16 → t.peek b = s.peek b) ∧
      t.sp = s.sp - 3 ∧ t.flags.getLsbD 2 = true ∧ (∀ k, k ≠ 2 → t.flags.getLsbD k = s.flags.getLsbD k) ∧
      t.a = s.a ∧ t.x = s.x ∧ t.y = s.y ∧ t.pc = mkWord (s.peek 0xFFFF) (s.peek 0xFFFE) ∧
      t.cyc = (s.cyc + 7) % 2 ^ s.cfg.cycWidth ∧ t.cfg = s.cfg

/-- R212: RTI pulls the flags, Break forced to 0, then the return address, low byte first, and goes there with no +1.
Decisions: D2, D3, D9, D12. -/
def Obligations.RtiRestoresFlagsAndPc : Prop :=
  ∀ s : State, ∃ t, exec .rti s = .next t ∧
    t.flags.getLsbD 4 = false ∧
    (∀ k, k ≠ 4 → t.flags.getLsbD k = (s.peek (0x0100 + (s.sp + 1).setWidth 16)).getLsbD k) ∧
    t.sp = s.sp + 3 ∧ t.a = s.a ∧ t.x = s.x ∧ t.y = s.y ∧ SameMemory s t ∧
    Transfers .rti
      (mkWord (s.peek (0x0100 + (s.sp + 3).setWidth 16)) (s.peek (0x0100 + (s.sp + 2).setWidth 16))) s t

/-- R310, R304: whatever Flags.I is, an RTI at the handler BRK entered returns to the pushed address with the flags
and SP that BRK found, Break 0. Decisions: D2, D8, D9, D12, D25. -/
def Obligations.RtiUndoesBrk : Prop :=
  ∀ s t : State, s.mem.wf = true → exec .brk s = .next t →
    ∃ u, exec .rti t = .next u ∧ u.pc = s.pc + s.cfg.brkPushOffset.toWord ∧ u.sp = s.sp ∧
      u.flags.getLsbD 4 = false ∧ (∀ k, k ≠ 4 → u.flags.getLsbD k = s.flags.getLsbD k) ∧
      u.a = s.a ∧ u.x = s.x ∧ u.y = s.y

/-- R209: JMP goes to its operand, or to the word its pointer names; with `JMP_IND_PAGE_BUG` a pointer at 0xxxFF takes
the high byte from 0xxx00. Nothing else changes. Decisions: D2, D3, D24. -/
def Obligations.JmpGoesToItsTarget : Prop :=
  ∀ (s : State) (w : Word),
    (∃ t, exec (.jmpAbs w) s = .next t ∧ (∀ q, t.reg q = s.reg q) ∧ SameMemory s t ∧ Transfers (.jmpAbs w) w s t) ∧
    (∃ t, exec (.jmpInd w) s = .next t ∧ (∀ q, t.reg q = s.reg q) ∧ SameMemory s t ∧
      Transfers (.jmpInd w)
        (mkWord (s.peek (if s.cfg.jmpIndPageBug = true ∧ w.toNat % 256 = 255 then w - 255 else w + 1)) (s.peek w)) s t)

/-- R210: JSR pushes the address of its last byte, high byte first, and goes to its operand. Decisions: D2, D3, D9. -/
def Obligations.JsrPushesAndJumps : Prop :=
  ∀ (s : State) (w : Word), s.mem.wf = true →
    ∃ t, exec (.jsr w) s = .next t ∧ t.peek (0x0100 + s.sp.setWidth 16) = hi (s.pc + 2) ∧
      t.peek (0x0100 + (s.sp - 1).setWidth 16) = lo (s.pc + 2) ∧
      (∀ b, b ≠ 0x0100 + s.sp.setWidth 16 → b ≠ 0x0100 + (s.sp - 1).setWidth 16 → t.peek b = s.peek b) ∧
      t.sp = s.sp - 2 ∧ (∀ q, q ≠ .sp → t.reg q = s.reg q) ∧ Transfers (.jsr w) w s t

/-- R211: RTS pulls a word, low byte first, and goes to the byte after the address it names. Decisions: D2, D3, D9. -/
def Obligations.RtsReturnsPastThePulledAddress : Prop :=
  ∀ s : State, ∃ t, exec .rts s = .next t ∧ t.sp = s.sp + 2 ∧ (∀ q, q ≠ .sp → t.reg q = s.reg q) ∧ SameMemory s t ∧
    Transfers .rts
      (mkWord (s.peek (0x0100 + (s.sp + 2).setWidth 16)) (s.peek (0x0100 + (s.sp + 1).setWidth 16)) + 1) s t

/-- R210 with R211: an RTS right after a JSR returns to the instruction after the JSR with SP restored. Decisions: D2,
D9. -/
def Obligations.RtsUndoesJsr : Prop :=
  ∀ (s t : State) (w : Word), s.mem.wf = true → exec (.jsr w) s = .next t →
    ∃ u, exec .rts t = .next u ∧ u.pc = s.pc + 3 ∧ u.sp = s.sp ∧ (∀ q, u.reg q = s.reg q)

/-- R213: NOP changes nothing but PC and CYC. Decisions: D2, D3. -/
def Obligations.NopOnlyPasses : Prop :=
  ∀ s : State, ∃ t, exec .nop s = .next t ∧ (∀ q, t.reg q = s.reg q) ∧ SameMemory s t ∧ Passes .nop s t

/-! ### Arithmetic, shifts, logic, compares -/

/-- R170: the adder's result is the exact sum cut to 8 bits, its carry says that the unsigned sum exceeds 0xFF, and
its overflow that the operands have one sign and the result the other, which is when the signed sum lies outside -128
to 127. -/
def Obligations.AdderAddsBytes : Prop :=
  ∀ (a m : Byte) (c : Bool),
    (addWithCarry a m c).result.toNat = (a.toNat + m.toNat + c.toNat) % 256 ∧
    ((addWithCarry a m c).carry = true ↔ 255 < a.toNat + m.toNat + c.toNat) ∧
    ((addWithCarry a m c).overflow = true ↔ a.msb = m.msb ∧ (addWithCarry a m c).result.msb ≠ a.msb) ∧
    ((addWithCarry a m c).overflow = true ↔
      ¬ (-128 ≤ a.toInt + m.toInt + (c.toNat : Int) ∧ a.toInt + m.toInt + (c.toNat : Int) ≤ 127))

/-- R171, R170, R173: unless refused, ADC puts A + m + C modulo 256 in A; C says that the unsigned sum exceeds 255, V
that the signed sum lies outside -128 to 127, Z and N follow the result. Decisions: D3, D5, D11. -/
def Obligations.AdcAddsWithCarry : Prop :=
  ∀ (i : Instr) (s : State), i.entry.mnemonic = .ADC →
    (s.cfg.decimalMode = .binary ∨ s.flags.getLsbD 3 = false) →
    ∃ src t, i.operand.source? = some src ∧ exec i s = .next t ∧
      t.a.toNat = (s.a.toNat + (sourceByte src s).toNat + (s.flags.getLsbD 0).toNat) % 256 ∧
      t.flags.getLsbD 0 = decide (255 < s.a.toNat + (sourceByte src s).toNat + (s.flags.getLsbD 0).toNat) ∧
      (t.flags.getLsbD 6 = true ↔ ¬ (-128 ≤ s.a.toInt + (sourceByte src s).toInt + ((s.flags.getLsbD 0).toNat : Int) ∧
        s.a.toInt + (sourceByte src s).toInt + ((s.flags.getLsbD 0).toNat : Int) ≤ 127)) ∧
      t.flags.getLsbD 1 = (t.a == 0) ∧ t.flags.getLsbD 7 = t.a.msb ∧
      (∀ k, k ≠ 0 → k ≠ 1 → k ≠ 6 → k ≠ 7 → t.flags.getLsbD k = s.flags.getLsbD k) ∧
      t.x = s.x ∧ t.y = s.y ∧ t.sp = s.sp ∧ SameMemory s t ∧ Passes i s t

/-- R172, R173: unless refused, SBC puts A - m - (1 - C) modulo 256 in A; C says that A is at least m + (1 - C) as
unsigned numbers, V is the signed overflow, Z and N follow the result. Decisions: D3, D5, D11, D26. -/
def Obligations.SbcSubtractsWithBorrow : Prop :=
  ∀ (i : Instr) (s : State), i.entry.mnemonic = .SBC →
    (s.cfg.decimalMode = .binary ∨ s.flags.getLsbD 3 = false) →
    ∃ src t, i.operand.source? = some src ∧ exec i s = .next t ∧
      (t.a.toNat : Int) = ((s.a.toNat : Int) - (sourceByte src s).toNat - (1 - (s.flags.getLsbD 0).toNat)) % 256 ∧
      t.flags.getLsbD 0 = decide ((sourceByte src s).toNat + (1 - (s.flags.getLsbD 0).toNat) ≤ s.a.toNat) ∧
      (t.flags.getLsbD 6 = true ↔
        ¬ (-128 ≤ s.a.toInt - (sourceByte src s).toInt - (1 - ((s.flags.getLsbD 0).toNat : Int)) ∧
          s.a.toInt - (sourceByte src s).toInt - (1 - ((s.flags.getLsbD 0).toNat : Int)) ≤ 127)) ∧
      t.flags.getLsbD 1 = (t.a == 0) ∧ t.flags.getLsbD 7 = t.a.msb ∧
      (∀ k, k ≠ 0 → k ≠ 1 → k ≠ 6 → k ≠ 7 → t.flags.getLsbD k = s.flags.getLsbD k) ∧
      t.x = s.x ∧ t.y = s.y ∧ t.sp = s.sp ∧ SameMemory s t ∧ Passes i s t

/-- R180 to R183, memory forms: the shifted byte in numbers (`n` the byte, `c` the old Carry), the evicted bit to
Carry, Z and N follow the byte; one byte of memory changes and no register. Decisions: D3, D10. -/
def Obligations.MemoryShiftsMoveOneBit : Prop :=
  ∀ (i : Instr) (f : MemForm) (s : State), s.mem.wf = true → i.operand = .memory f →
    i.entry.mnemonic ∈ [Mnemonic.ASL, .LSR, .ROL, .ROR] →
    ∃ v carry t, exec i s = .next t ∧ t.peek (effectiveAddress f s) = v ∧
      (∀ b, b ≠ effectiveAddress f s → t.peek b = s.peek b) ∧ CZNFollow carry v s.flags t.flags ∧
      (∀ q, q ≠ .flags → t.reg q = s.reg q) ∧ Passes i s t ∧
      (let n := (s.peek (effectiveAddress f s)).toNat
       let c := (s.flags.getLsbD 0).toNat
       (i.entry.mnemonic, v.toNat, carry) ∈ [(Mnemonic.ASL, 2 * n % 256, decide (128 ≤ n)),
        (.LSR, n / 2, decide (n % 2 = 1)), (.ROL, (2 * n + c) % 256, decide (128 ≤ n)),
        (.ROR, n / 2 + 128 * c, decide (n % 2 = 1))])

/-- R180 to R183, accumulator forms. Decisions: D3. -/
def Obligations.AccumulatorShiftsMoveOneBit : Prop :=
  ∀ (i : Instr) (s : State), i ∈ [Instr.aslAcc, .lsrAcc, .rolAcc, .rorAcc] →
    ∃ carry t, exec i s = .next t ∧ CZNFollow carry t.a s.flags t.flags ∧
      t.x = s.x ∧ t.y = s.y ∧ t.sp = s.sp ∧ SameMemory s t ∧ Passes i s t ∧
      (let n := s.a.toNat
       let c := (s.flags.getLsbD 0).toNat
       (i, t.a.toNat, carry) ∈ [(Instr.aslAcc, 2 * n % 256, decide (128 ≤ n)),
        (.lsrAcc, n / 2, decide (n % 2 = 1)), (.rolAcc, (2 * n + c) % 256, decide (128 ≤ n)),
        (.rorAcc, n / 2 + 128 * c, decide (n % 2 = 1))])

/-- R202 to R204: ORA, AND and EOR combine the operand into A bit by bit; Z and N follow the result. Decisions: D2,
D3, D11. -/
def Obligations.LogicCombinesBitsIntoA : Prop :=
  ∀ (i : Instr) (s : State), i.entry.mnemonic ∈ [Mnemonic.ORA, .AND, .EOR] →
    ∃ src t, i.operand.source? = some src ∧ exec i s = .next t ∧
      (∀ k, (i.entry.mnemonic, t.a.getLsbD k) ∈
        [(Mnemonic.ORA, s.a.getLsbD k || (sourceByte src s).getLsbD k),
         (.AND, s.a.getLsbD k && (sourceByte src s).getLsbD k),
         (.EOR, s.a.getLsbD k ^^ (sourceByte src s).getLsbD k)]) ∧
      ZNFollow t.a s.flags t.flags ∧ t.x = s.x ∧ t.y = s.y ∧ t.sp = s.sp ∧ SameMemory s t ∧ Passes i s t

/-- R205: BIT sets Z when A and the memory byte share no set bit, N and V from bits 7 and 6 of the byte; A stays.
Decisions: D2, D3. -/
def Obligations.BitTestsTheMemoryByte : Prop :=
  ∀ (i : Instr) (s : State), i.entry.mnemonic = .BIT →
    ∃ f t, i.operand = .memory f ∧ exec i s = .next t ∧
      (t.flags.getLsbD 1 = true ↔ ∀ k, ¬ (s.a.getLsbD k = true ∧ (s.peek (effectiveAddress f s)).getLsbD k = true)) ∧
      t.flags.getLsbD 7 = (s.peek (effectiveAddress f s)).getLsbD 7 ∧
      t.flags.getLsbD 6 = (s.peek (effectiveAddress f s)).getLsbD 6 ∧
      (∀ k, k ≠ 1 → k ≠ 6 → k ≠ 7 → t.flags.getLsbD k = s.flags.getLsbD k) ∧
      (∀ q, q ≠ .flags → t.reg q = s.reg q) ∧ SameMemory s t ∧ Passes i s t

/-- R206 to R208, R201: CMP, CPX and CPY set C when the register is at least the operand, Z when they are equal, N
from bit 7 of the difference; V and every register stay. Decisions: D2, D3, D11. -/
def Obligations.ComparesOrderRegisterAndOperand : Prop :=
  ∀ (i : Instr) (r : Reg8) (s : State),
    (i.entry.mnemonic, r) ∈ [(Mnemonic.CMP, Reg8.a), (.CPX, .x), (.CPY, .y)] →
    ∃ src t, i.operand.source? = some src ∧ exec i s = .next t ∧
      t.flags.getLsbD 0 = decide ((sourceByte src s).toNat ≤ (s.reg r).toNat) ∧
      t.flags.getLsbD 1 = decide (s.reg r = sourceByte src s) ∧
      t.flags.getLsbD 7 = (s.reg r - sourceByte src s).getLsbD 7 ∧
      (∀ k, k ≠ 0 → k ≠ 1 → k ≠ 7 → t.flags.getLsbD k = s.flags.getLsbD k) ∧
      (∀ q, q ≠ .flags → t.reg q = s.reg q) ∧ SameMemory s t ∧ Passes i s t

/-! ### Memory and addressing -/

/-- R42, R43: a byte read gives the last byte written there, and a write leaves every other address alone. -/
def Obligations.ByteReadAfterByteWrite : Prop :=
  ∀ (s : State) (a b : Word) (v : Byte), s.mem.wf = true → (s.poke a v).peek b = if b = a then v else s.peek b

/-- R44, R45: a word is written low byte first, at consecutive addresses modulo 65536, and reads back as it was
written. Decisions: none, but R45 is derived by the spec from R43 and R44. -/
def Obligations.WordWriteIsLittleEndian : Prop :=
  ∀ (s : State) (a : Word) (w : Word), s.mem.wf = true →
    ((s.pokeWord a w).peek a).toNat = w.toNat % 256 ∧ ((s.pokeWord a w).peek (a + 1)).toNat = w.toNat / 256 ∧
      (s.pokeWord a w).peekWord a = w

/-- R53, R54: an immediate operand is the operand byte; a zero-page address is the operand byte as a number, and a
zero-page indexed one its sum with the index modulo 256, so each stays in the zero page; none crosses a page. -/
def Obligations.ZeroPageIndexingWraps : Prop :=
  ∀ (s : State) (z : Byte),
    sourceByte (.immediate z) s = z ∧
    (effectiveAddress (.zeroPage z) s).toNat = z.toNat ∧ crosses (.zeroPage z) s = false ∧
    (effectiveAddress (.zeroPageX z) s).toNat = (z.toNat + s.x.toNat) % 256 ∧
    (effectiveAddress (.zeroPageY z) s).toNat = (z.toNat + s.y.toNat) % 256 ∧
    crosses (.zeroPageX z) s = false ∧ crosses (.zeroPageY z) s = false

/-- R55, R56, R60: an absolute address is the operand word and crosses no page; an absolute indexed address is the sum
modulo 65536, and it crosses a page exactly when the low byte of the base plus the index exceeds 255, which is R60's
unequal high bytes in numbers. -/
def Obligations.AbsoluteIndexingWrapsAndCrosses : Prop :=
  ∀ (s : State) (w : Word),
    (effectiveAddress (.absolute w) s).toNat = w.toNat ∧ crosses (.absolute w) s = false ∧
    (effectiveAddress (.absoluteX w) s).toNat = (w.toNat + s.x.toNat) % 65536 ∧
    (effectiveAddress (.absoluteY w) s).toNat = (w.toNat + s.y.toNat) % 65536 ∧
    crosses (.absoluteX w) s = decide (256 ≤ w.toNat % 256 + s.x.toNat) ∧
    crosses (.absoluteY w) s = decide (256 ≤ w.toNat % 256 + s.y.toNat)

/-- R57: the Pre-Indexed-Indirect pointer lies at b1 + X modulo 256; its high byte is the next one, which at 0xFF is
0x0100, or 0x0000 with `ZP_PTR_WRAP`; no page cross. Decisions: D11. -/
def Obligations.PreIndexedReadsItsPointer : Prop :=
  ∀ (s : State) (z : Byte),
    let p := (z.toNat + s.x.toNat) % 256
    let q := if s.cfg.zpPtrWrap then (p + 1) % 256 else p + 1
    (effectiveAddress (.preIndexed z) s).toNat =
      (s.peek (BitVec.ofNat 16 p)).toNat + 256 * (s.peek (BitVec.ofNat 16 q)).toNat ∧
    crosses (.preIndexed z) s = false

/-- R58: a Post-Indexed-Indirect address is the pointer's word plus Y modulo 65536, and it crosses a page exactly when
the pointer's low byte plus Y exceeds 255. Decisions: D11. -/
def Obligations.PostIndexedAddsYToThePointer : Prop :=
  ∀ (s : State) (z : Byte),
    let q := if s.cfg.zpPtrWrap then (z.toNat + 1) % 256 else z.toNat + 1
    let low := (s.peek (BitVec.ofNat 16 z.toNat)).toNat
    let base := low + 256 * (s.peek (BitVec.ofNat 16 q)).toNat
    (effectiveAddress (.postIndexed z) s).toNat = (base + s.y.toNat) % 65536 ∧
    crosses (.postIndexed z) s = decide (256 ≤ low + s.y.toNat)

/-! ### Reset, the host, the run -/

/-- R400: what a hard reset leaves, for every reset address and every setting of the parameters. Decisions: D14 for
CYC. -/
def Obligations.HardResetZeroesAndLoadsTheVector : Prop :=
  ∀ (b : Block) (w : Word), ∃ s, hostCall (.hardReset w) b = (.running s, .done) ∧
    s.a = 0 ∧ s.x = 0 ∧ s.y = 0 ∧ s.flags = 0 ∧ s.sp = 0xFF ∧ s.pc = w ∧ s.cyc = 0 ∧
    ∀ a, s.peek a = if a = 0xFFFC then lo w else if a = 0xFFFD then hi w else 0

/-- R401, R403: a soft reset reloads SP and PC alone, the vector read from memory as it is now; before the first hard
reset it is refused. Decisions: D14 for CYC, D15. -/
def Obligations.SoftResetReloadsSpAndPcAlone : Prop :=
  (∀ s : State, ∃ t, hostCall .softReset (.running s) = (.running t, .done) ∧ t.sp = 0xFF ∧
    t.pc = mkWord (s.peek 0xFFFD) (s.peek 0xFFFC) ∧ (∀ q, q ≠ .sp → t.reg q = s.reg q) ∧ SameMemory s t ∧
    t.cyc = s.cyc ∧ t.cfg = s.cfg) ∧
  ∀ p : Params, hostCall .softReset (.unreset p) = (.unreset p, .refused .beforeHardReset)

/-- R85: for every byte with an entry, `disassemble` at PC returns an instruction text with the entry's length, and the step
there runs an instruction with that entry and moves PC by that length unless the instruction itself sets PC. -/
def Obligations.DisassemblyLengthIsTheStepLength : Prop :=
  ∀ (s : State) (e : Entry), lookup s.cfg.extNmos (s.peek s.pc) = some e →
    ∃ i text, disassemble s s.pc = .instr text e.length ∧ step s = exec i s ∧ i.entry = e ∧
      ∀ t, step s = .next t →
        (mayOwnPc e.mnemonic = false ∨ (branchTest e.mnemonic ≠ none ∧ branchTaken i s = false)) →
        t.pc = s.pc + BitVec.ofNat 16 e.length

/-- R31: reading a mask says whether any of its bits is set; writing it sets or clears all of them and no other.
Decisions: D28. -/
def Obligations.FlagMaskReadsAnyAndWritesAll : Prop :=
  ∀ (m f : Byte) (v : Bool), (flagGet m f = true ↔ ∃ k, m.getLsbD k = true ∧ f.getLsbD k = true) ∧
    ∀ k, (flagSet m v f).getLsbD k = if m.getLsbD k then v else f.getLsbD k

/-- R318: a run that goes on for `n` steps and then meets a decode error ends there: normally at `HALT_ADDR`, as a
fault anywhere else, in the state before that step. Decisions: D21. -/
def Obligations.RunEndsAtItsFirstDecodeError : Prop :=
  ∀ (haltAddr : Word) (n : Nat) (s t : State) (op : Byte) (a : Word),
    runTo haltAddr n s = .running t → step t = .fault (.decodeError op a) → ∀ k,
      runTo haltAddr (n + k + 1) s = if a = haltAddr then .halted t else .faulted (.decodeError op a) t
end

