-- ==== Sys2Proof/Laws/Bytes.lean ====
section
/-! SUPPORT. The byte-order helpers in numbers (R10): a word is its two bytes and nothing else. -/

namespace Sys2Proof

theorem toNat_lo (w : Word) : (lo w).toNat = w.toNat % 256 := by
  simp [lo]

theorem toNat_hi (w : Word) : (hi w).toNat = w.toNat / 256 := by
  have h := w.isLt
  simp [hi, Nat.shiftRight_eq_div_pow]
  omega

theorem toNat_mkWord (h l : Byte) : (mkWord h l).toNat = 256 * h.toNat + l.toNat := by
  have hl := l.isLt
  simp only [mkWord, BitVec.toNat_append]
  rw [← Nat.shiftLeft_add_eq_or_of_lt hl, Nat.shiftLeft_eq]
  omega

@[simp] theorem mkWord_hi_lo (w : Word) : mkWord (hi w) (lo w) = w := by
  apply BitVec.eq_of_toNat_eq
  rw [toNat_mkWord, toNat_lo, toNat_hi]
  omega

@[simp] theorem lo_mkWord (h l : Byte) : lo (mkWord h l) = l := by
  apply BitVec.eq_of_toNat_eq
  have := l.isLt
  rw [toNat_lo, toNat_mkWord]
  omega

@[simp] theorem hi_mkWord (h l : Byte) : hi (mkWord h l) = h := by
  apply BitVec.eq_of_toNat_eq
  have := l.isLt
  rw [toNat_hi, toNat_mkWord]
  omega

end Sys2Proof
end

