-- ==== Sys2Proof/Laws/Memory.lean ====
section
/-! SUPPORT. Memory: a read after a write, and the canonical form that every memory operation keeps. -/

namespace Sys2Proof.Machine

@[simp] theorem Memory.byteAt_nil (a : Nat) : Memory.byteAt [] a = unlistedByte := rfl

theorem Memory.byteAt_cons (b : Nat) (w : Byte) (m : Memory) (a : Nat) :
    Memory.byteAt ((b, w) :: m) a = if a = b then w else Memory.byteAt m a := rfl

/-- A write leaves every other address alone, in any memory. -/
theorem Memory.byteAt_setByte_ne (m : Memory) {a b : Nat} (v : Byte) (h : b ≠ a) :
    (m.setByte a v).byteAt b = m.byteAt b := by
  induction m with
  | nil => by_cases hv : v = unlistedByte <;> simp [Memory.setByte, Memory.byteAt, hv, h]
  | cons c m ih =>
    obtain ⟨d, w⟩ := c
    simp only [Memory.setByte]
    split
    · split <;> simp [Memory.byteAt, h]
    · split
      · next had => split <;> simp_all [Memory.byteAt]
      · simp [Memory.byteAt, ih]

/-- In a canonical memory an address below every cell is unlisted. -/
theorem Memory.byteAt_of_wfFrom_lt {m : Memory} {n a : Nat} (h : m.wfFrom n = true) (ha : a < n) :
    m.byteAt a = unlistedByte := by
  induction m generalizing n with
  | nil => rfl
  | cons c m ih =>
    obtain ⟨d, w⟩ := c
    simp only [Memory.wfFrom, Bool.and_eq_true, decide_eq_true_eq] at h
    rw [Memory.byteAt_cons, if_neg (by omega)]
    exact ih h.2 (by omega)

/-- A read after a write to the same address, in a canonical memory. -/
theorem Memory.byteAt_setByte_same {m : Memory} {n : Nat} (h : m.wfFrom n = true) (a : Nat) (v : Byte) :
    (m.setByte a v).byteAt a = v := by
  induction m generalizing n with
  | nil => by_cases hv : v = unlistedByte <;> simp [Memory.setByte, Memory.byteAt, hv]
  | cons c m ih =>
    obtain ⟨d, w⟩ := c
    simp only [Memory.wfFrom, Bool.and_eq_true, decide_eq_true_eq] at h
    have hlow : a ≤ d → Memory.byteAt m a = unlistedByte := fun hd => Memory.byteAt_of_wfFrom_lt h.2 (by omega)
    simp only [Memory.setByte]
    split
    · next had =>
      split
      · next hv => rw [Memory.byteAt_cons, if_neg (by omega), hlow (by omega), hv]
      · simp [Memory.byteAt]
    · split
      · next had =>
        split
        · next hv => rw [hlow (by omega), hv]
        · simp [Memory.byteAt]
      · next h1 h2 => rw [Memory.byteAt_cons, if_neg h2, ih h.2]

theorem Memory.wfFrom_mono {m : Memory} {n k : Nat} (h : m.wfFrom n = true) (hk : k ≤ n) : m.wfFrom k = true := by
  cases m with
  | nil => rfl
  | cons c m =>
    simp only [Memory.wfFrom, Bool.and_eq_true, decide_eq_true_eq] at h ⊢
    exact ⟨⟨⟨by omega, h.1.1.2⟩, h.1.2⟩, h.2⟩

/-- A write at an address of the space keeps the canonical form. -/
theorem Memory.wfFrom_setByte {m : Memory} {n a : Nat} (v : Byte) (h : m.wfFrom n = true) (hn : n ≤ a) (ha : a < 65536) :
    (m.setByte a v).wfFrom n = true := by
  induction m generalizing n with
  | nil => by_cases hv : v = unlistedByte <;> simp [Memory.setByte, Memory.wfFrom, hv, hn, ha]
  | cons c m ih =>
    obtain ⟨d, w⟩ := c
    have h' := h
    simp only [Memory.wfFrom, Bool.and_eq_true, decide_eq_true_eq] at h'
    simp only [Memory.setByte]
    split
    · next had =>
      split
      · exact h
      · next hv =>
        simp only [Memory.wfFrom, Bool.and_eq_true, decide_eq_true_eq]
        exact ⟨⟨⟨hn, ha⟩, by simpa using hv⟩, ⟨⟨by omega, h'.1.1.2⟩, h'.1.2⟩, h'.2⟩
    · split
      · next had =>
        subst had
        split
        · exact Memory.wfFrom_mono h'.2 (by omega)
        · next hv =>
          simp only [Memory.wfFrom, Bool.and_eq_true, decide_eq_true_eq]
          exact ⟨⟨⟨hn, ha⟩, by simpa using hv⟩, h'.2⟩
      · next h1 h2 =>
        simp only [Memory.wfFrom, Bool.and_eq_true, decide_eq_true_eq]
        exact ⟨h'.1, ih h'.2 (by omega)⟩

/-- `pokeByte` keeps the canonical form. -/
theorem Memory.wf_poke {m : Memory} (h : m.wf = true) (a : Word) (v : Byte) : (m.poke a v).wf = true :=
  Memory.wfFrom_setByte v h (Nat.zero_le _) a.isLt

/-- `pokeWord` keeps the canonical form. -/
theorem Memory.wf_pokeWord {m : Memory} (h : m.wf = true) (a : Word) (w : Word) : (m.pokeWord a w).wf = true :=
  Memory.wf_poke (Memory.wf_poke h a _) _ _

/-- `peekByte` after `pokeByte` at another address. -/
theorem Memory.peek_poke_ne (m : Memory) {a b : Word} (v : Byte) (h : b ≠ a) : (m.poke a v).peek b = m.peek b :=
  Memory.byteAt_setByte_ne m v (fun e => h (BitVec.eq_of_toNat_eq e))

/-- `peekByte` after `pokeByte` at the same address. -/
theorem Memory.peek_poke_same {m : Memory} (h : m.wf = true) (a : Word) (v : Byte) : (m.poke a v).peek a = v :=
  Memory.byteAt_setByte_same h _ _

/-- The memory a hard reset leaves is canonical. -/
theorem resetMemory_wf (w : Word) : (resetMemory w).wf = true := Memory.wf_pokeWord rfl _ _

theorem State.peek_poke_ne (s : State) {a b : Word} (v : Byte) (h : b ≠ a) : (s.poke a v).peek b = s.peek b :=
  Memory.peek_poke_ne _ _ h

theorem State.peek_poke_same {s : State} (h : s.mem.wf = true) (a : Word) (v : Byte) : (s.poke a v).peek a = v :=
  Memory.peek_poke_same h _ _

end Sys2Proof.Machine
end

