-- ==== Sys2Proof/Laws/State.lean ====
section
/-! SUPPORT. One lemma per field per update of State, each true by rfl, so that no proof unfolds a record update. -/

namespace Sys2Proof.Machine

@[simp] theorem State.setReg_a_a (s : State) (v : Byte) : (s.setReg .a v).a = v := rfl
@[simp] theorem State.setReg_a_x (s : State) (v : Byte) : (s.setReg .a v).x = s.x := rfl
@[simp] theorem State.setReg_a_y (s : State) (v : Byte) : (s.setReg .a v).y = s.y := rfl
@[simp] theorem State.setReg_a_sp (s : State) (v : Byte) : (s.setReg .a v).sp = s.sp := rfl
@[simp] theorem State.setReg_a_pc (s : State) (v : Byte) : (s.setReg .a v).pc = s.pc := rfl
@[simp] theorem State.setReg_a_flags (s : State) (v : Byte) : (s.setReg .a v).flags = s.flags := rfl
@[simp] theorem State.setReg_a_mem (s : State) (v : Byte) : (s.setReg .a v).mem = s.mem := rfl
@[simp] theorem State.setReg_a_cyc (s : State) (v : Byte) : (s.setReg .a v).cyc = s.cyc := rfl
@[simp] theorem State.setReg_a_cfg (s : State) (v : Byte) : (s.setReg .a v).cfg = s.cfg := rfl

@[simp] theorem State.setReg_x_a (s : State) (v : Byte) : (s.setReg .x v).a = s.a := rfl
@[simp] theorem State.setReg_x_x (s : State) (v : Byte) : (s.setReg .x v).x = v := rfl
@[simp] theorem State.setReg_x_y (s : State) (v : Byte) : (s.setReg .x v).y = s.y := rfl
@[simp] theorem State.setReg_x_sp (s : State) (v : Byte) : (s.setReg .x v).sp = s.sp := rfl
@[simp] theorem State.setReg_x_pc (s : State) (v : Byte) : (s.setReg .x v).pc = s.pc := rfl
@[simp] theorem State.setReg_x_flags (s : State) (v : Byte) : (s.setReg .x v).flags = s.flags := rfl
@[simp] theorem State.setReg_x_mem (s : State) (v : Byte) : (s.setReg .x v).mem = s.mem := rfl
@[simp] theorem State.setReg_x_cyc (s : State) (v : Byte) : (s.setReg .x v).cyc = s.cyc := rfl
@[simp] theorem State.setReg_x_cfg (s : State) (v : Byte) : (s.setReg .x v).cfg = s.cfg := rfl

@[simp] theorem State.setReg_y_a (s : State) (v : Byte) : (s.setReg .y v).a = s.a := rfl
@[simp] theorem State.setReg_y_x (s : State) (v : Byte) : (s.setReg .y v).x = s.x := rfl
@[simp] theorem State.setReg_y_y (s : State) (v : Byte) : (s.setReg .y v).y = v := rfl
@[simp] theorem State.setReg_y_sp (s : State) (v : Byte) : (s.setReg .y v).sp = s.sp := rfl
@[simp] theorem State.setReg_y_pc (s : State) (v : Byte) : (s.setReg .y v).pc = s.pc := rfl
@[simp] theorem State.setReg_y_flags (s : State) (v : Byte) : (s.setReg .y v).flags = s.flags := rfl
@[simp] theorem State.setReg_y_mem (s : State) (v : Byte) : (s.setReg .y v).mem = s.mem := rfl
@[simp] theorem State.setReg_y_cyc (s : State) (v : Byte) : (s.setReg .y v).cyc = s.cyc := rfl
@[simp] theorem State.setReg_y_cfg (s : State) (v : Byte) : (s.setReg .y v).cfg = s.cfg := rfl

@[simp] theorem State.setReg_sp_a (s : State) (v : Byte) : (s.setReg .sp v).a = s.a := rfl
@[simp] theorem State.setReg_sp_x (s : State) (v : Byte) : (s.setReg .sp v).x = s.x := rfl
@[simp] theorem State.setReg_sp_y (s : State) (v : Byte) : (s.setReg .sp v).y = s.y := rfl
@[simp] theorem State.setReg_sp_sp (s : State) (v : Byte) : (s.setReg .sp v).sp = v := rfl
@[simp] theorem State.setReg_sp_pc (s : State) (v : Byte) : (s.setReg .sp v).pc = s.pc := rfl
@[simp] theorem State.setReg_sp_flags (s : State) (v : Byte) : (s.setReg .sp v).flags = s.flags := rfl
@[simp] theorem State.setReg_sp_mem (s : State) (v : Byte) : (s.setReg .sp v).mem = s.mem := rfl
@[simp] theorem State.setReg_sp_cyc (s : State) (v : Byte) : (s.setReg .sp v).cyc = s.cyc := rfl
@[simp] theorem State.setReg_sp_cfg (s : State) (v : Byte) : (s.setReg .sp v).cfg = s.cfg := rfl

@[simp] theorem State.setReg_flags_a (s : State) (v : Byte) : (s.setReg .flags v).a = s.a := rfl
@[simp] theorem State.setReg_flags_x (s : State) (v : Byte) : (s.setReg .flags v).x = s.x := rfl
@[simp] theorem State.setReg_flags_y (s : State) (v : Byte) : (s.setReg .flags v).y = s.y := rfl
@[simp] theorem State.setReg_flags_sp (s : State) (v : Byte) : (s.setReg .flags v).sp = s.sp := rfl
@[simp] theorem State.setReg_flags_pc (s : State) (v : Byte) : (s.setReg .flags v).pc = s.pc := rfl
@[simp] theorem State.setReg_flags_flags (s : State) (v : Byte) : (s.setReg .flags v).flags = v := rfl
@[simp] theorem State.setReg_flags_mem (s : State) (v : Byte) : (s.setReg .flags v).mem = s.mem := rfl
@[simp] theorem State.setReg_flags_cyc (s : State) (v : Byte) : (s.setReg .flags v).cyc = s.cyc := rfl
@[simp] theorem State.setReg_flags_cfg (s : State) (v : Byte) : (s.setReg .flags v).cfg = s.cfg := rfl

@[simp] theorem State.setReg_pc (s : State) (r : Reg8) (v : Byte) : (s.setReg r v).pc = s.pc := by cases r <;> rfl
@[simp] theorem State.setReg_mem (s : State) (r : Reg8) (v : Byte) : (s.setReg r v).mem = s.mem := by cases r <;> rfl
@[simp] theorem State.setReg_cyc (s : State) (r : Reg8) (v : Byte) : (s.setReg r v).cyc = s.cyc := by cases r <;> rfl
@[simp] theorem State.setReg_cfg (s : State) (r : Reg8) (v : Byte) : (s.setReg r v).cfg = s.cfg := by cases r <;> rfl

@[simp] theorem State.setFlags_a (s : State) (f : Byte) : (s.setFlags f).a = s.a := rfl
@[simp] theorem State.setFlags_x (s : State) (f : Byte) : (s.setFlags f).x = s.x := rfl
@[simp] theorem State.setFlags_y (s : State) (f : Byte) : (s.setFlags f).y = s.y := rfl
@[simp] theorem State.setFlags_sp (s : State) (f : Byte) : (s.setFlags f).sp = s.sp := rfl
@[simp] theorem State.setFlags_pc (s : State) (f : Byte) : (s.setFlags f).pc = s.pc := rfl
@[simp] theorem State.setFlags_flags (s : State) (f : Byte) : (s.setFlags f).flags = f := rfl
@[simp] theorem State.setFlags_mem (s : State) (f : Byte) : (s.setFlags f).mem = s.mem := rfl
@[simp] theorem State.setFlags_cyc (s : State) (f : Byte) : (s.setFlags f).cyc = s.cyc := rfl
@[simp] theorem State.setFlags_cfg (s : State) (f : Byte) : (s.setFlags f).cfg = s.cfg := rfl

@[simp] theorem State.setPc_a (s : State) (w : Word) : (s.setPc w).a = s.a := rfl
@[simp] theorem State.setPc_x (s : State) (w : Word) : (s.setPc w).x = s.x := rfl
@[simp] theorem State.setPc_y (s : State) (w : Word) : (s.setPc w).y = s.y := rfl
@[simp] theorem State.setPc_sp (s : State) (w : Word) : (s.setPc w).sp = s.sp := rfl
@[simp] theorem State.setPc_pc (s : State) (w : Word) : (s.setPc w).pc = w := rfl
@[simp] theorem State.setPc_flags (s : State) (w : Word) : (s.setPc w).flags = s.flags := rfl
@[simp] theorem State.setPc_mem (s : State) (w : Word) : (s.setPc w).mem = s.mem := rfl
@[simp] theorem State.setPc_cyc (s : State) (w : Word) : (s.setPc w).cyc = s.cyc := rfl
@[simp] theorem State.setPc_cfg (s : State) (w : Word) : (s.setPc w).cfg = s.cfg := rfl

@[simp] theorem State.poke_a (s : State) (b : Word) (v : Byte) : (s.poke b v).a = s.a := rfl
@[simp] theorem State.poke_x (s : State) (b : Word) (v : Byte) : (s.poke b v).x = s.x := rfl
@[simp] theorem State.poke_y (s : State) (b : Word) (v : Byte) : (s.poke b v).y = s.y := rfl
@[simp] theorem State.poke_sp (s : State) (b : Word) (v : Byte) : (s.poke b v).sp = s.sp := rfl
@[simp] theorem State.poke_pc (s : State) (b : Word) (v : Byte) : (s.poke b v).pc = s.pc := rfl
@[simp] theorem State.poke_flags (s : State) (b : Word) (v : Byte) : (s.poke b v).flags = s.flags := rfl
@[simp] theorem State.poke_mem (s : State) (b : Word) (v : Byte) : (s.poke b v).mem = s.mem.poke b v := rfl
@[simp] theorem State.poke_cyc (s : State) (b : Word) (v : Byte) : (s.poke b v).cyc = s.cyc := rfl
@[simp] theorem State.poke_cfg (s : State) (b : Word) (v : Byte) : (s.poke b v).cfg = s.cfg := rfl

@[simp] theorem State.pokeWord_a (s : State) (b w : Word) : (s.pokeWord b w).a = s.a := rfl
@[simp] theorem State.pokeWord_x (s : State) (b w : Word) : (s.pokeWord b w).x = s.x := rfl
@[simp] theorem State.pokeWord_y (s : State) (b w : Word) : (s.pokeWord b w).y = s.y := rfl
@[simp] theorem State.pokeWord_sp (s : State) (b w : Word) : (s.pokeWord b w).sp = s.sp := rfl
@[simp] theorem State.pokeWord_pc (s : State) (b w : Word) : (s.pokeWord b w).pc = s.pc := rfl
@[simp] theorem State.pokeWord_flags (s : State) (b w : Word) : (s.pokeWord b w).flags = s.flags := rfl
@[simp] theorem State.pokeWord_mem (s : State) (b w : Word) : (s.pokeWord b w).mem = s.mem.pokeWord b w := rfl
@[simp] theorem State.pokeWord_cyc (s : State) (b w : Word) : (s.pokeWord b w).cyc = s.cyc := rfl
@[simp] theorem State.pokeWord_cfg (s : State) (b w : Word) : (s.pokeWord b w).cfg = s.cfg := rfl

@[simp] theorem State.push_a (s : State) (v : Byte) : (s.push v).a = s.a := rfl
@[simp] theorem State.push_x (s : State) (v : Byte) : (s.push v).x = s.x := rfl
@[simp] theorem State.push_y (s : State) (v : Byte) : (s.push v).y = s.y := rfl
@[simp] theorem State.push_sp (s : State) (v : Byte) : (s.push v).sp = s.sp - 1 := rfl
@[simp] theorem State.push_pc (s : State) (v : Byte) : (s.push v).pc = s.pc := rfl
@[simp] theorem State.push_flags (s : State) (v : Byte) : (s.push v).flags = s.flags := rfl
@[simp] theorem State.push_mem (s : State) (v : Byte) : (s.push v).mem = s.mem.poke (stackAddr s.sp) v := rfl
@[simp] theorem State.push_cyc (s : State) (v : Byte) : (s.push v).cyc = s.cyc := rfl
@[simp] theorem State.push_cfg (s : State) (v : Byte) : (s.push v).cfg = s.cfg := rfl

@[simp] theorem State.push16_a (s : State) (w : Word) : (s.push16 w).a = s.a := rfl
@[simp] theorem State.push16_x (s : State) (w : Word) : (s.push16 w).x = s.x := rfl
@[simp] theorem State.push16_y (s : State) (w : Word) : (s.push16 w).y = s.y := rfl
@[simp] theorem State.push16_sp (s : State) (w : Word) : (s.push16 w).sp = s.sp - 1 - 1 := rfl
@[simp] theorem State.push16_pc (s : State) (w : Word) : (s.push16 w).pc = s.pc := rfl
@[simp] theorem State.push16_flags (s : State) (w : Word) : (s.push16 w).flags = s.flags := rfl
@[simp] theorem State.push16_mem (s : State) (w : Word) : (s.push16 w).mem = (s.mem.poke (stackAddr s.sp) (hi w)).poke (stackAddr (s.sp - 1)) (lo w) := rfl
@[simp] theorem State.push16_cyc (s : State) (w : Word) : (s.push16 w).cyc = s.cyc := rfl
@[simp] theorem State.push16_cfg (s : State) (w : Word) : (s.push16 w).cfg = s.cfg := rfl

@[simp] theorem State.pull_a (s : State) : (s.pull).a = s.a := rfl
@[simp] theorem State.pull_x (s : State) : (s.pull).x = s.x := rfl
@[simp] theorem State.pull_y (s : State) : (s.pull).y = s.y := rfl
@[simp] theorem State.pull_sp (s : State) : (s.pull).sp = s.sp + 1 := rfl
@[simp] theorem State.pull_pc (s : State) : (s.pull).pc = s.pc := rfl
@[simp] theorem State.pull_flags (s : State) : (s.pull).flags = s.flags := rfl
@[simp] theorem State.pull_mem (s : State) : (s.pull).mem = s.mem := rfl
@[simp] theorem State.pull_cyc (s : State) : (s.pull).cyc = s.cyc := rfl
@[simp] theorem State.pull_cfg (s : State) : (s.pull).cfg = s.cfg := rfl

@[simp] theorem State.pull16_a (s : State) : (s.pull16).a = s.a := rfl
@[simp] theorem State.pull16_x (s : State) : (s.pull16).x = s.x := rfl
@[simp] theorem State.pull16_y (s : State) : (s.pull16).y = s.y := rfl
@[simp] theorem State.pull16_sp (s : State) : (s.pull16).sp = s.sp + 1 + 1 := rfl
@[simp] theorem State.pull16_pc (s : State) : (s.pull16).pc = s.pc := rfl
@[simp] theorem State.pull16_flags (s : State) : (s.pull16).flags = s.flags := rfl
@[simp] theorem State.pull16_mem (s : State) : (s.pull16).mem = s.mem := rfl
@[simp] theorem State.pull16_cyc (s : State) : (s.pull16).cyc = s.cyc := rfl
@[simp] theorem State.pull16_cfg (s : State) : (s.pull16).cfg = s.cfg := rfl

@[simp] theorem State.addCost_a (s : State) (n : Nat) : (s.addCost n).a = s.a := rfl
@[simp] theorem State.addCost_x (s : State) (n : Nat) : (s.addCost n).x = s.x := rfl
@[simp] theorem State.addCost_y (s : State) (n : Nat) : (s.addCost n).y = s.y := rfl
@[simp] theorem State.addCost_sp (s : State) (n : Nat) : (s.addCost n).sp = s.sp := rfl
@[simp] theorem State.addCost_pc (s : State) (n : Nat) : (s.addCost n).pc = s.pc := rfl
@[simp] theorem State.addCost_flags (s : State) (n : Nat) : (s.addCost n).flags = s.flags := rfl
@[simp] theorem State.addCost_mem (s : State) (n : Nat) : (s.addCost n).mem = s.mem := rfl
@[simp] theorem State.addCost_cyc (s : State) (n : Nat) : (s.addCost n).cyc = (s.cyc + n) % 2 ^ s.cfg.cycWidth := rfl
@[simp] theorem State.addCost_cfg (s : State) (n : Nat) : (s.addCost n).cfg = s.cfg := rfl

@[simp] theorem State.reg_a (s : State) : s.reg .a = s.a := rfl
@[simp] theorem State.reg_x (s : State) : s.reg .x = s.x := rfl
@[simp] theorem State.reg_y (s : State) : s.reg .y = s.y := rfl
@[simp] theorem State.reg_sp (s : State) : s.reg .sp = s.sp := rfl
@[simp] theorem State.reg_flags (s : State) : s.reg .flags = s.flags := rfl

/-- A register reads what was written to it. -/
@[simp] theorem State.reg_setReg_same (s : State) (r : Reg8) (v : Byte) : (s.setReg r v).reg r = v := by cases r <;> rfl

/-- Writing a register leaves the others. -/
theorem State.reg_setReg_ne (s : State) {r q : Reg8} (v : Byte) (h : q ≠ r) : (s.setReg r v).reg q = s.reg q := by
  cases r <;> cases q <;> first | rfl | exact absurd rfl h

/-- Reading memory looks at the memory field alone. -/
theorem State.peek_def (s : State) (b : Word) : s.peek b = s.mem.peek b := rfl

theorem State.peekWord_def (s : State) (b : Word) : s.peekWord b = s.mem.peekWord b := rfl

end Sys2Proof.Machine
end

