-- ==== Sys2Proof/Laws/Ops.lean ====
section
/-! SUPPORT. What each shared operation can do, said once: every executor shape answers exactly the state below, or the one
refusal of the adder. -/

namespace Sys2Proof.Machine

/-- The epilogue always answers a next state, the executor's with PC past the instruction and CYC grown. -/
theorem endStep_next {e : Entry} {n : Nat} {s t : State} (h : endStep e n s = .next t) :
    t = { s with pc := s.nextPc e.length, cyc := (s.cyc + (e.baseCycles + n)) % 2 ^ s.cfg.cycWidth } := by
  simpa [endStep, State.addCost, State.setPc, eq_comm] using h

/-- The epilogue of an executor that owns PC. -/
theorem endStepAt_next {e : Entry} {n : Nat} {w : Word} {s t : State} (h : endStepAt e n w s = .next t) :
    t = { s with pc := w, cyc := (s.cyc + (e.baseCycles + n)) % 2 ^ s.cfg.cycWidth } := by
  simpa [endStepAt, State.addCost, State.setPc, eq_comm] using h

/-- The epilogue of an executor whose effect set PC itself. -/
theorem endOwned_next {e : Entry} {u t : State} (h : endOwned e u = .next t) :
    t = { u with cyc := (u.cyc + e.baseCycles) % 2 ^ u.cfg.cycWidth } := by
  simpa [endOwned, State.addCost, eq_comm] using h

/-- The adder refuses or completes, and refuses exactly under `DecimalCheck()`. -/
theorem adderStep_cases (m : Byte) (p : Nat) (e : Entry) (s : State) :
    (decimalRefused s = true ∧ adderStep m p e s = .refused .decimalMode) ∨
      (decimalRefused s = false ∧ adderStep m p e s = endStep e p
        ((s.setReg .a (addWithCarry s.a m (flagGet maskC s.flags)).result).setFlags
          (setAdderFlags (addWithCarry s.a m (flagGet maskC s.flags)) s.flags))) := by
  cases h : decimalRefused s
  · right; simp [adderStep, h]
  · left; simp [adderStep, h]

/-- A branch either transfers or passes. -/
theorem branchOn_cases (mask : Byte) (v : Bool) (e : Entry) (d : Byte) (s : State) :
    (flagGet mask s.flags = v ∧ branchOn mask v e d s = endStepAt e (takenPenalty d s) (branchTarget d s) s) ∨
      (flagGet mask s.flags ≠ v ∧ branchOn mask v e d s = endStep e 0 s) := by
  by_cases h : flagGet mask s.flags = v
  · left; exact ⟨h, if_pos h⟩
  · right; exact ⟨h, if_neg h⟩

/-- Trap entry, field by field (R160, R309). -/
theorem takeTrap_fields (s : State) :
    (takeTrap s).a = s.a ∧ (takeTrap s).x = s.x ∧ (takeTrap s).y = s.y ∧ (takeTrap s).sp = s.sp - 1 - 1 - 1 ∧
      (takeTrap s).flags = flagSet maskI true s.flags ∧ (takeTrap s).cyc = s.cyc ∧ (takeTrap s).cfg = s.cfg ∧
      (takeTrap s).pc = (takeTrap s).mem.peekWord irqVector ∧
      (takeTrap s).mem = ((s.push16 (s.pc + s.cfg.brkPushOffset.toWord)).push (pushedBreakFlags s.flags)).mem := by
  simp [takeTrap, State.peekWord_def]

/-- Trap return, field by field (R212). -/
theorem returnFromTrap_fields (s : State) :
    (returnFromTrap s).a = s.a ∧ (returnFromTrap s).x = s.x ∧ (returnFromTrap s).y = s.y ∧
      (returnFromTrap s).sp = s.sp + 1 + 1 + 1 ∧ (returnFromTrap s).flags = restoredFlags s.pulled ∧
      (returnFromTrap s).pc = s.pull.pulled16 ∧ (returnFromTrap s).mem = s.mem ∧ (returnFromTrap s).cyc = s.cyc ∧
      (returnFromTrap s).cfg = s.cfg := by
  simp [returnFromTrap, State.pulled16, State.pulled, State.peek_def]

/-- A push keeps the canonical form of memory. -/
theorem State.wf_push {s : State} (h : s.mem.wf = true) (v : Byte) : (s.push v).mem.wf = true := Memory.wf_poke h _ _

/-- A 16-bit push keeps the canonical form of memory. -/
theorem State.wf_push16 {s : State} (h : s.mem.wf = true) (w : Word) : (s.push16 w).mem.wf = true :=
  State.wf_push (State.wf_push h _) _

/-- Trap entry keeps the canonical form of memory. -/
theorem wf_takeTrap {s : State} (h : s.mem.wf = true) : (takeTrap s).mem.wf = true := by
  rw [(takeTrap_fields s).2.2.2.2.2.2.2.2]
  exact State.wf_push (State.wf_push16 h _) _

/-- The stack address of any SP lies in page 0x01 (R24). -/
theorem hi_stackAddr (sp : Byte) : hi (stackAddr sp) = 0x01 := by revert sp; decide

/-- Different values of SP name different stack bytes (R24). -/
theorem stackAddr_inj {p q : Byte} (h : stackAddr p = stackAddr q) : p = q := by
  have hp := p.isLt
  have hq := q.isLt
  have := congrArg BitVec.toNat h
  simp only [stackAddr, BitVec.toNat_add, BitVec.toNat_setWidth] at this
  exact BitVec.eq_of_toNat_eq (by omega)

end Sys2Proof.Machine
end

