-- ==== Sys2Proof/Laws/Cost.lean ====
section
/-! SUPPORT. The cost table against the penalties the executors add: one lemma per penalty class (R61 to R63, R80). -/

namespace Sys2Proof.Machine

/-- A mode that adds no index to a 16-bit base never crosses a page. -/
theorem crosses_of_base {f : MemForm} {s : State} (h : effectiveAddress f s = baseAddress f s) : crosses f s = false := by
  simp [crosses, h, pageCross]

theorem stepCost_none {i : Instr} (h : i.entry.penalty = .none) (s : State) : stepCost i s = i.entry.baseCycles + 0 := by
  simp [stepCost, costPenalty, h]

theorem stepCost_read {i : Instr} {f : MemForm} (h : i.entry.penalty = .read) (ho : i.operand = .memory f) (s : State) :
    stepCost i s = i.entry.baseCycles + readPenalty (.memory f) s := by
  simp only [stepCost, costPenalty, h, ho, readPenalty]
  cases crosses f s <;> rfl

theorem stepCost_write {i : Instr} {f : MemForm} (h : i.entry.penalty = .write) (ho : i.operand = .memory f) (s : State) :
    stepCost i s = i.entry.baseCycles + writePenalty f s := by
  simp only [stepCost, costPenalty, h, ho, writePenalty]
  cases crosses f s <;> cases s.cfg.penaltyOnWrite <;> rfl

/-- A read form whose entry has no penalty adds none. -/
theorem stepCost_readFixed {i : Instr} {f : MemForm} (h : i.entry.penalty = .none)
    (hf : ∀ s, effectiveAddress f s = baseAddress f s) (s : State) :
    stepCost i s = i.entry.baseCycles + readPenalty (.memory f) s := by
  simp only [readPenalty, crosses_of_base (hf s)]
  exact stepCost_none h s

/-- A write form whose entry has no penalty adds none. -/
theorem stepCost_writeFixed {i : Instr} {f : MemForm} (h : i.entry.penalty = .none)
    (hf : ∀ s, effectiveAddress f s = baseAddress f s) (s : State) :
    stepCost i s = i.entry.baseCycles + writePenalty f s := by
  simp only [writePenalty, crosses_of_base (hf s)]
  exact stepCost_none h s

/-- A branch that its flag takes costs the taken penalty more. -/
theorem stepCost_taken {i : Instr} {d m : Byte} {v : Bool} {s : State} (h : i.entry.penalty = .branch)
    (ho : i.operand = .relative d) (ht : branchTest i.entry.mnemonic = some (m, v)) (hf : flagGet m s.flags = v) :
    stepCost i s = i.entry.baseCycles + takenPenalty d s := by
  simp only [stepCost, costPenalty, h, ho, branchTaken, ht, hf, takenPenalty, beq_self_eq_true, if_true]
  cases pageCross (branchBase s) (branchTarget d s) <;> rfl

/-- A branch that its flag does not take costs its base cycles. -/
theorem stepCost_notTaken {i : Instr} {d m : Byte} {v : Bool} {s : State} (h : i.entry.penalty = .branch)
    (ho : i.operand = .relative d) (ht : branchTest i.entry.mnemonic = some (m, v)) (hf : flagGet m s.flags ≠ v) :
    stepCost i s = i.entry.baseCycles + 0 := by
  simp [stepCost, costPenalty, h, ho, branchTaken, ht, hf]

end Sys2Proof.Machine
end

