-- ==== Sys2Proof/Laws/Decode.lean ====
section
/-! SUPPORT. The decoder and the opcode table hold the same rows (R72, R74, R75, R77). -/

namespace Sys2Proof

/-- What a row of the table by opcode byte says of the instructions it makes: their entry has this opcode, whatever the
operand, and their operand bytes are the bytes read. -/
theorem opcodeForm_row {op : Byte} {f : Form} (hf : opcodeForm op = some f) :
    match f with
    | .implied i => i.entry.opcode = op ∧ i.operand.bytes = []
    | .byte mk => ∀ b, (mk b).entry = (mk 0).entry ∧ (mk b).entry.opcode = op ∧ (mk b).operand.bytes = [b]
    | .word mk => ∀ w, (mk w).entry = (mk 0).entry ∧ (mk w).entry.opcode = op ∧ (mk w).operand.bytes = [lo w, hi w] := by
  unfold opcodeForm at hf
  split at hf
  all_goals first
    | (cases hf; done)
    | (cases hf
       rename_i heq
       have hop := BitVec.ofNat_toNat 8 op
       rw [heq] at hop
       simp only [BitVec.setWidth_eq] at hop
       subst hop
       first | exact ⟨rfl, rfl⟩ | exact fun _ => ⟨rfl, rfl, rfl⟩)

/-- An opcode byte has an entry exactly when its form is present under this `EXT_NMOS`. -/
theorem lookup_eq_some {ext : Bool} {op : Byte} {e : Entry} :
    lookup ext op = some e ↔ ∃ f, opcodeForm op = some f ∧ f.entry.present ext = true ∧ f.entry = e := by
  unfold lookup
  cases opcodeForm op with
  | none => simp
  | some f => by_cases h : f.entry.present ext = true <;> simp [h]

theorem lookup_eq_none {ext : Bool} {op : Byte} :
    lookup ext op = none ↔ ∀ f, opcodeForm op = some f → f.entry.present ext = false := by
  unfold lookup
  cases opcodeForm op with
  | none => simp
  | some f => by_cases h : f.entry.present ext = true <;> simp [h]

/-- The length of a row is the number of bytes its form reads (R71). -/
theorem length_of_form {op : Byte} {f : Form} (hf : opcodeForm op = some f) :
    f.entry.length = match f with | .implied _ => 1 | .byte _ => 2 | .word _ => 3 := by
  unfold opcodeForm at hf
  split at hf <;> cases hf <;> rfl

/-- An opcode with an entry decodes to an instruction with that entry, from three bytes and from as many as its length. -/
theorem decode_of_lookup {ext : Bool} {op : Byte} {e : Entry} (h : lookup ext op = some e) (b1 b2 : Byte) :
    ∃ i, e = i.entry ∧ (∃ r, decode ext [op, b1, b2] = .ok (i, r)) ∧
      ∃ r, decode ext ([op, b1, b2].take e.length) = .ok (i, r) := by
  obtain ⟨f, hf, hp, rfl⟩ := lookup_eq_some.1 h
  have hl := length_of_form hf
  have hr := opcodeForm_row hf
  cases f with
  | implied i =>
    exact ⟨i, rfl, ⟨_, by simp only [decode, hf, hp]; rfl⟩, ⟨_, by simp only [hl, decode, hf, List.take, hp]; rfl⟩⟩
  | byte mk =>
    exact ⟨mk b1, (hr b1).1.symm, ⟨_, by simp only [decode, hf, hp]; rfl⟩,
      ⟨_, by simp only [hl, decode, hf, List.take, hp]; rfl⟩⟩
  | word mk =>
    exact ⟨mk (mkWord b2 b1), (hr _).1.symm, ⟨_, by simp only [decode, hf, hp]; rfl⟩,
      ⟨_, by simp only [hl, decode, hf, List.take, hp]; rfl⟩⟩

/-- An opcode with no entry decodes to nothing, whatever follows it. -/
theorem decode_of_lookup_none {ext : Bool} {op : Byte} (h : lookup ext op = none) (rest : List Byte) :
    decode ext (op :: rest) = .error (.invalidOpcode op) := by
  have h' := lookup_eq_none.1 h
  cases hf : opcodeForm op with
  | none => simp only [decode, hf]
  | some f => simp only [decode, hf, h' f hf]; rfl

end Sys2Proof
end

