-- ==== Sys2Proof/Laws/Flags.lean ====
section
/-! SUPPORT. The Flags register bit by bit: each flag computation says what every bit becomes. -/

namespace Sys2Proof.Machine

/-- `FlagSet` writes the mask's bits and no other. -/
theorem getLsbD_flagSet (m : Byte) (v : Bool) (f : Byte) (k : Nat) :
    (flagSet m v f).getLsbD k = if m.getLsbD k then v else f.getLsbD k := by
  have hk : f.getLsbD k = true → k < 8 := BitVec.lt_of_getLsbD
  have hm : m.getLsbD k = true → k < 8 := BitVec.lt_of_getLsbD
  cases v <;> simp only [flagSet, if_true, BitVec.getLsbD_or, BitVec.getLsbD_and, BitVec.getLsbD_not,
    Bool.false_eq_true, if_false] <;> cases hf : f.getLsbD k <;> cases hmk : m.getLsbD k <;> simp_all

theorem getLsbD_maskC (k : Nat) : maskC.getLsbD k = decide (k = 0) := by
  rw [show maskC = BitVec.twoPow 8 0 from rfl, BitVec.getLsbD_twoPow]; simp [eq_comm]
theorem getLsbD_maskZ (k : Nat) : maskZ.getLsbD k = decide (k = 1) := by
  rw [show maskZ = BitVec.twoPow 8 1 from rfl, BitVec.getLsbD_twoPow]; simp [eq_comm]
theorem getLsbD_maskI (k : Nat) : maskI.getLsbD k = decide (k = 2) := by
  rw [show maskI = BitVec.twoPow 8 2 from rfl, BitVec.getLsbD_twoPow]; simp [eq_comm]
theorem getLsbD_maskD (k : Nat) : maskD.getLsbD k = decide (k = 3) := by
  rw [show maskD = BitVec.twoPow 8 3 from rfl, BitVec.getLsbD_twoPow]; simp [eq_comm]
theorem getLsbD_maskB (k : Nat) : maskB.getLsbD k = decide (k = 4) := by
  rw [show maskB = BitVec.twoPow 8 4 from rfl, BitVec.getLsbD_twoPow]; simp [eq_comm]
theorem getLsbD_maskU (k : Nat) : maskU.getLsbD k = decide (k = 5) := by
  rw [show maskU = BitVec.twoPow 8 5 from rfl, BitVec.getLsbD_twoPow]; simp [eq_comm]
theorem getLsbD_maskV (k : Nat) : maskV.getLsbD k = decide (k = 6) := by
  rw [show maskV = BitVec.twoPow 8 6 from rfl, BitVec.getLsbD_twoPow]; simp [eq_comm]
theorem getLsbD_maskN (k : Nat) : maskN.getLsbD k = decide (k = 7) := by
  rw [show maskN = BitVec.twoPow 8 7 from rfl, BitVec.getLsbD_twoPow]; simp [eq_comm]

/-- Testing one flag reads its bit. -/
theorem flagGet_maskC (f : Byte) : flagGet maskC f = f.getLsbD 0 := by revert f; decide
theorem flagGet_maskZ (f : Byte) : flagGet maskZ f = f.getLsbD 1 := by revert f; decide
theorem flagGet_maskI (f : Byte) : flagGet maskI f = f.getLsbD 2 := by revert f; decide
theorem flagGet_maskD (f : Byte) : flagGet maskD f = f.getLsbD 3 := by revert f; decide
theorem flagGet_maskV (f : Byte) : flagGet maskV f = f.getLsbD 6 := by revert f; decide
theorem flagGet_maskN (f : Byte) : flagGet maskN f = f.getLsbD 7 := by revert f; decide

/-- `SetZN` writes bits 1 and 7 (R28). -/
theorem getLsbD_setZN (v f : Byte) (k : Nat) :
    (setZN v f).getLsbD k = if k = 7 then v.msb else if k = 1 then v == 0 else f.getLsbD k := by
  simp [setZN, getLsbD_flagSet, getLsbD_maskN, getLsbD_maskZ]

/-- The adder's flags are bits 0, 1, 6 and 7 (R171, R172). -/
theorem getLsbD_setAdderFlags (o : AdderOut) (f : Byte) (k : Nat) :
    (setAdderFlags o f).getLsbD k = if k = 7 then o.result.msb else if k = 1 then o.result == 0
      else if k = 6 then o.overflow else if k = 0 then o.carry else f.getLsbD k := by
  simp [setAdderFlags, getLsbD_setZN, getLsbD_flagSet, getLsbD_maskV, getLsbD_maskC]

/-- A compare writes bits 0, 1 and 7 (R201). -/
theorem getLsbD_compareFlags (r m f : Byte) (k : Nat) :
    (compareFlags r m f).getLsbD k = if k = 7 then (addWithCarry r (~~~m) true).result.msb
      else if k = 1 then (addWithCarry r (~~~m) true).result == 0
      else if k = 0 then (addWithCarry r (~~~m) true).carry else f.getLsbD k := by
  simp [compareFlags, getLsbD_setZN, getLsbD_flagSet, getLsbD_maskC]

/-- BIT writes bits 1, 6 and 7 (R205). -/
theorem getLsbD_bitFlags (a m f : Byte) (k : Nat) :
    (bitFlags a m f).getLsbD k = if k = 6 then m.getLsbD 6 else if k = 7 then m.getLsbD 7
      else if k = 1 then (a &&& m) == 0 else f.getLsbD k := by
  simp [bitFlags, getLsbD_flagSet, getLsbD_maskV, getLsbD_maskN, getLsbD_maskZ]

/-- The restored flags are the pulled byte with bit 4 low (R143). -/
theorem getLsbD_restoredFlags (v : Byte) (k : Nat) :
    (restoredFlags v).getLsbD k = if k = 4 then false else v.getLsbD k := by
  have h : restoredFlags v = v &&& ~~~maskB := rfl
  have hk : v.getLsbD k = true → k < 8 := BitVec.lt_of_getLsbD
  rw [h, BitVec.getLsbD_and, BitVec.getLsbD_not, getLsbD_maskB]
  by_cases h4 : k = 4 <;> cases hv : v.getLsbD k <;> simp_all

/-- The byte BRK pushes is Flags with bit 4 high (R160). -/
theorem getLsbD_pushedBreakFlags (f : Byte) (k : Nat) :
    (pushedBreakFlags f).getLsbD k = if k = 4 then true else f.getLsbD k := by
  by_cases h4 : k = 4 <;> simp [pushedBreakFlags, BitVec.getLsbD_or, getLsbD_maskB, h4]

/-- The adder's result is the sum of the operands and the carry modulo 256, its carry the sum's ninth bit (R170). -/
theorem addWithCarry_sum (a m : Byte) (c : Bool) :
    a.toNat + m.toNat + c.toNat =
      (addWithCarry a m c).result.toNat + 256 * (addWithCarry a m c).carry.toNat := by
  have ha := a.isLt
  have hm := m.isLt
  have hc := Bool.toNat_le c
  simp only [addWithCarry, BitVec.toNat_ofNat, Nat.testBit_eq_decide_div_mod_eq]
  by_cases h : (a.toNat + m.toNat + c.toNat) / 256 % 2 = 1
  · simp [h]; omega
  · simp [h]; omega

end Sys2Proof.Machine
end

