-- ==== Sys2Proof/Laws/Shape.lean ====
section
/-! SUPPORT. Every instruction has one of 21 shapes: the shared operation its meaning calls, with the registers, flags,
operand and cost it calls it with. Proofs over all instructions split on the shape, not on the 151 constructors. -/

namespace Sys2Proof.Machine

/-- The shapes; each constructor says which mnemonics have it, with their parameters, and what `exec` is (`he`) and costs
(`hc`) in every state. -/
inductive Shape (i : Instr) : Prop where
  | load (r : Reg8) (src : Source)
    (hm : (i.entry.mnemonic, r) ∈ [(Mnemonic.LDA, Reg8.a), (.LDX, .x), (.LDY, .y)])
    (ho : i.operand.source? = some src)
    (hc : ∀ s, stepCost i s = i.entry.baseCycles + readPenalty src s)
    (he : ∀ s, exec i s = load r i.entry src s)
  | store (r : Reg8) (f : MemForm)
    (hm : (i.entry.mnemonic, r) ∈ [(Mnemonic.STA, Reg8.a), (.STX, .x), (.STY, .y)])
    (ho : i.operand = .memory f)
    (hc : ∀ s, stepCost i s = i.entry.baseCycles + writePenalty f s)
    (he : ∀ s, exec i s = store r i.entry f s)
  | modifyMemory (fn : Byte → Byte → Byte × Byte) (f : MemForm)
    (hm : (i.entry.mnemonic, fn) ∈ [(Mnemonic.INC, incByte), (.DEC, decByte), (.ASL, aslByte), (.LSR, lsrByte),
      (.ROL, rolByte), (.ROR, rorByte)])
    (ho : i.operand = .memory f)
    (hc : ∀ s, stepCost i s = i.entry.baseCycles + writePenalty f s)
    (he : ∀ s, exec i s = modifyMemory fn i.entry f s)
  | modifyAccumulator (fn : Byte → Byte → Byte × Byte)
    (hm : (i.entry.mnemonic, fn) ∈ [(Mnemonic.ASL, aslByte), (.LSR, lsrByte), (.ROL, rolByte), (.ROR, rorByte)])
    (ho : i.operand = .implicit)
    (hc : ∀ s, stepCost i s = i.entry.baseCycles + 0)
    (he : ∀ s, exec i s = modifyAccumulator fn i.entry s)
  | setRegister (r : Reg8) (v : State → Byte)
    (hm : (i.entry.mnemonic, r, v) ∈ [(Mnemonic.INX, Reg8.x, fun s => s.x + 1), (.INY, .y, fun s => s.y + 1),
      (.DEX, .x, fun s => s.x - 1), (.DEY, .y, fun s => s.y - 1), (.TAX, .x, State.a), (.TAY, .y, State.a),
      (.TXA, .a, State.x), (.TYA, .a, State.y), (.TSX, .x, State.sp)])
    (hc : ∀ s, stepCost i s = i.entry.baseCycles + 0)
    (he : ∀ s, exec i s = setRegister r (v s) i.entry s)
  | txs (hm : i = .txs)
  | writeFlag (m : Byte) (v : Bool)
    (hm : (i.entry.mnemonic, m, v) ∈ [(Mnemonic.CLC, maskC, false), (.SEC, maskC, true), (.CLI, maskI, false),
      (.SEI, maskI, true), (.CLD, maskD, false), (.SED, maskD, true), (.CLV, maskV, false)])
    (hc : ∀ s, stepCost i s = i.entry.baseCycles + 0)
    (he : ∀ s, exec i s = writeFlag m v i.entry s)
  | pushRegister (r : Reg8)
    (hm : (i.entry.mnemonic, r) ∈ [(Mnemonic.PHA, Reg8.a), (.PHP, .flags)])
    (hc : ∀ s, stepCost i s = i.entry.baseCycles + 0)
    (he : ∀ s, exec i s = pushRegister r i.entry s)
  | pla (hm : i = .pla)
  | plp (hm : i = .plp)
  | branchOn (m : Byte) (v : Bool) (d : Byte)
    (hm : (i.entry.mnemonic, m, v) ∈ [(Mnemonic.BPL, maskN, false), (.BMI, maskN, true), (.BVC, maskV, false),
      (.BVS, maskV, true), (.BCC, maskC, false), (.BCS, maskC, true), (.BNE, maskZ, false), (.BEQ, maskZ, true)])
    (ho : i.operand = .relative d)
    (hp : i.entry.penalty = .branch)
    (ht : branchTest i.entry.mnemonic = some (m, v))
    (he : ∀ s, exec i s = branchOn m v i.entry d s)
  | brk (hm : i = .brk)
  | rti (hm : i = .rti)
  | addOperand (src : Source)
    (hm : i.entry.mnemonic = .ADC)
    (ho : i.operand.source? = some src)
    (hc : ∀ s, stepCost i s = i.entry.baseCycles + readPenalty src s)
    (he : ∀ s, exec i s = addOperand i.entry src s)
  | subOperand (src : Source)
    (hm : i.entry.mnemonic = .SBC)
    (ho : i.operand.source? = some src)
    (hc : ∀ s, stepCost i s = i.entry.baseCycles + readPenalty src s)
    (he : ∀ s, exec i s = subOperand i.entry src s)
  | combine (fn : Byte → Byte → Byte) (src : Source)
    (hm : (i.entry.mnemonic, fn) ∈ [(Mnemonic.ORA, (· ||| ·)), (.AND, (· &&& ·)), (.EOR, (· ^^^ ·))])
    (ho : i.operand.source? = some src)
    (hc : ∀ s, stepCost i s = i.entry.baseCycles + readPenalty src s)
    (he : ∀ s, exec i s = combine fn i.entry src s)
  | bitTest (f : MemForm)
    (hm : i.entry.mnemonic = .BIT)
    (ho : i.operand = .memory f)
    (hc : ∀ s, stepCost i s = i.entry.baseCycles + readPenalty (.memory f) s)
    (he : ∀ s, exec i s = bitTest i.entry (.memory f) s)
  | compareRegister (r : Reg8) (src : Source)
    (hm : (i.entry.mnemonic, r) ∈ [(Mnemonic.CMP, Reg8.a), (.CPX, .x), (.CPY, .y)])
    (ho : i.operand.source? = some src)
    (hc : ∀ s, stepCost i s = i.entry.baseCycles + readPenalty src s)
    (he : ∀ s, exec i s = compareRegister r i.entry src s)
  | jump (w : State → Word)
    (hm : (∃ w', i = .jmpAbs w' ∧ w = fun _ => w') ∨ ∃ p, i = .jmpInd p ∧ w = indirectTarget p)
    (hn : i.entry.mnemonic = .JMP)
    (hc : ∀ s, stepCost i s = i.entry.baseCycles + 0)
    (he : ∀ s, exec i s = endStepAt i.entry 0 (w s) s)
  | jsr (w : Word) (hm : i = .jsr w)
  | rts (hm : i = .rts)
  | nop (hm : i = .nop)

/-- The shape of every instruction. -/
theorem shape : (i : Instr) → Shape i
  | .ldaIzx z => .load .a (.memory (.preIndexed z)) (.head _) rfl (stepCost_readFixed rfl (fun _ => rfl)) (fun _ => rfl)
  | .ldaZp z => .load .a (.memory (.zeroPage z)) (.head _) rfl (stepCost_readFixed rfl (fun _ => rfl)) (fun _ => rfl)
  | .ldaImm v => .load .a (.immediate v) (.head _) rfl (stepCost_none rfl) (fun _ => rfl)
  | .ldaAbs w => .load .a (.memory (.absolute w)) (.head _) rfl (stepCost_readFixed rfl (fun _ => rfl)) (fun _ => rfl)
  | .ldaIzy z => .load .a (.memory (.postIndexed z)) (.head _) rfl (stepCost_read rfl rfl) (fun _ => rfl)
  | .ldaZpx z => .load .a (.memory (.zeroPageX z)) (.head _) rfl (stepCost_readFixed rfl (fun _ => rfl)) (fun _ => rfl)
  | .ldaAby w => .load .a (.memory (.absoluteY w)) (.head _) rfl (stepCost_read rfl rfl) (fun _ => rfl)
  | .ldaAbx w => .load .a (.memory (.absoluteX w)) (.head _) rfl (stepCost_read rfl rfl) (fun _ => rfl)
  | .ldxImm v => .load .x (.immediate v) (.tail _ (.head _)) rfl (stepCost_none rfl) (fun _ => rfl)
  | .ldxZp z => .load .x (.memory (.zeroPage z)) (.tail _ (.head _)) rfl (stepCost_readFixed rfl (fun _ => rfl)) (fun _ => rfl)
  | .ldxAbs w => .load .x (.memory (.absolute w)) (.tail _ (.head _)) rfl (stepCost_readFixed rfl (fun _ => rfl)) (fun _ => rfl)
  | .ldxZpy z => .load .x (.memory (.zeroPageY z)) (.tail _ (.head _)) rfl (stepCost_readFixed rfl (fun _ => rfl)) (fun _ => rfl)
  | .ldxAby w => .load .x (.memory (.absoluteY w)) (.tail _ (.head _)) rfl (stepCost_read rfl rfl) (fun _ => rfl)
  | .ldyImm v => .load .y (.immediate v) (.tail _ (.tail _ (.head _))) rfl (stepCost_none rfl) (fun _ => rfl)
  | .ldyZp z => .load .y (.memory (.zeroPage z)) (.tail _ (.tail _ (.head _))) rfl (stepCost_readFixed rfl (fun _ => rfl)) (fun _ => rfl)
  | .ldyAbs w => .load .y (.memory (.absolute w)) (.tail _ (.tail _ (.head _))) rfl (stepCost_readFixed rfl (fun _ => rfl)) (fun _ => rfl)
  | .ldyZpx z => .load .y (.memory (.zeroPageX z)) (.tail _ (.tail _ (.head _))) rfl (stepCost_readFixed rfl (fun _ => rfl)) (fun _ => rfl)
  | .ldyAbx w => .load .y (.memory (.absoluteX w)) (.tail _ (.tail _ (.head _))) rfl (stepCost_read rfl rfl) (fun _ => rfl)
  | .staIzx z => .store .a (.preIndexed z) (.head _) rfl (stepCost_writeFixed rfl (fun _ => rfl)) (fun _ => rfl)
  | .staZp z => .store .a (.zeroPage z) (.head _) rfl (stepCost_writeFixed rfl (fun _ => rfl)) (fun _ => rfl)
  | .staAbs w => .store .a (.absolute w) (.head _) rfl (stepCost_writeFixed rfl (fun _ => rfl)) (fun _ => rfl)
  | .staIzy z => .store .a (.postIndexed z) (.head _) rfl (stepCost_write rfl rfl) (fun _ => rfl)
  | .staZpx z => .store .a (.zeroPageX z) (.head _) rfl (stepCost_writeFixed rfl (fun _ => rfl)) (fun _ => rfl)
  | .staAby w => .store .a (.absoluteY w) (.head _) rfl (stepCost_write rfl rfl) (fun _ => rfl)
  | .staAbx w => .store .a (.absoluteX w) (.head _) rfl (stepCost_write rfl rfl) (fun _ => rfl)
  | .stxZp z => .store .x (.zeroPage z) (.tail _ (.head _)) rfl (stepCost_writeFixed rfl (fun _ => rfl)) (fun _ => rfl)
  | .stxAbs w => .store .x (.absolute w) (.tail _ (.head _)) rfl (stepCost_writeFixed rfl (fun _ => rfl)) (fun _ => rfl)
  | .stxZpy z => .store .x (.zeroPageY z) (.tail _ (.head _)) rfl (stepCost_writeFixed rfl (fun _ => rfl)) (fun _ => rfl)
  | .styZp z => .store .y (.zeroPage z) (.tail _ (.tail _ (.head _))) rfl (stepCost_writeFixed rfl (fun _ => rfl)) (fun _ => rfl)
  | .styAbs w => .store .y (.absolute w) (.tail _ (.tail _ (.head _))) rfl (stepCost_writeFixed rfl (fun _ => rfl)) (fun _ => rfl)
  | .styZpx z => .store .y (.zeroPageX z) (.tail _ (.tail _ (.head _))) rfl (stepCost_writeFixed rfl (fun _ => rfl)) (fun _ => rfl)
  | .incZp z => .modifyMemory incByte (.zeroPage z) (.head _) rfl (stepCost_writeFixed rfl (fun _ => rfl)) (fun _ => rfl)
  | .incAbs w => .modifyMemory incByte (.absolute w) (.head _) rfl (stepCost_writeFixed rfl (fun _ => rfl)) (fun _ => rfl)
  | .incZpx z => .modifyMemory incByte (.zeroPageX z) (.head _) rfl (stepCost_writeFixed rfl (fun _ => rfl)) (fun _ => rfl)
  | .incAbx w => .modifyMemory incByte (.absoluteX w) (.head _) rfl (stepCost_write rfl rfl) (fun _ => rfl)
  | .decZp z => .modifyMemory decByte (.zeroPage z) (.tail _ (.head _)) rfl (stepCost_writeFixed rfl (fun _ => rfl)) (fun _ => rfl)
  | .decAbs w => .modifyMemory decByte (.absolute w) (.tail _ (.head _)) rfl (stepCost_writeFixed rfl (fun _ => rfl)) (fun _ => rfl)
  | .decZpx z => .modifyMemory decByte (.zeroPageX z) (.tail _ (.head _)) rfl (stepCost_writeFixed rfl (fun _ => rfl)) (fun _ => rfl)
  | .decAbx w => .modifyMemory decByte (.absoluteX w) (.tail _ (.head _)) rfl (stepCost_write rfl rfl) (fun _ => rfl)
  | .inx => .setRegister .x (fun s => s.x + 1) (.head _) (stepCost_none rfl) (fun _ => rfl)
  | .iny => .setRegister .y (fun s => s.y + 1) (.tail _ (.head _)) (stepCost_none rfl) (fun _ => rfl)
  | .dex => .setRegister .x (fun s => s.x - 1) (.tail _ (.tail _ (.head _))) (stepCost_none rfl) (fun _ => rfl)
  | .dey => .setRegister .y (fun s => s.y - 1) (.tail _ (.tail _ (.tail _ (.head _)))) (stepCost_none rfl) (fun _ => rfl)
  | .tax => .setRegister .x (State.a) (.tail _ (.tail _ (.tail _ (.tail _ (.head _))))) (stepCost_none rfl) (fun _ => rfl)
  | .tay => .setRegister .y (State.a) (.tail _ (.tail _ (.tail _ (.tail _ (.tail _ (.head _)))))) (stepCost_none rfl) (fun _ => rfl)
  | .txa => .setRegister .a (State.x) (.tail _ (.tail _ (.tail _ (.tail _ (.tail _ (.tail _ (.head _))))))) (stepCost_none rfl) (fun _ => rfl)
  | .tya => .setRegister .a (State.y) (.tail _ (.tail _ (.tail _ (.tail _ (.tail _ (.tail _ (.tail _ (.head _)))))))) (stepCost_none rfl) (fun _ => rfl)
  | .tsx => .setRegister .x (State.sp) (.tail _ (.tail _ (.tail _ (.tail _ (.tail _ (.tail _ (.tail _ (.tail _ (.head _))))))))) (stepCost_none rfl) (fun _ => rfl)
  | .txs => .txs rfl
  | .clc => .writeFlag maskC false (.head _) (stepCost_none rfl) (fun _ => rfl)
  | .sec => .writeFlag maskC true (.tail _ (.head _)) (stepCost_none rfl) (fun _ => rfl)
  | .cli => .writeFlag maskI false (.tail _ (.tail _ (.head _))) (stepCost_none rfl) (fun _ => rfl)
  | .sei => .writeFlag maskI true (.tail _ (.tail _ (.tail _ (.head _)))) (stepCost_none rfl) (fun _ => rfl)
  | .cld => .writeFlag maskD false (.tail _ (.tail _ (.tail _ (.tail _ (.head _))))) (stepCost_none rfl) (fun _ => rfl)
  | .sed => .writeFlag maskD true (.tail _ (.tail _ (.tail _ (.tail _ (.tail _ (.head _)))))) (stepCost_none rfl) (fun _ => rfl)
  | .clv => .writeFlag maskV false (.tail _ (.tail _ (.tail _ (.tail _ (.tail _ (.tail _ (.head _))))))) (stepCost_none rfl) (fun _ => rfl)
  | .pha => .pushRegister .a (.head _) (stepCost_none rfl) (fun _ => rfl)
  | .php => .pushRegister .flags (.tail _ (.head _)) (stepCost_none rfl) (fun _ => rfl)
  | .pla => .pla rfl
  | .plp => .plp rfl
  | .bpl d => .branchOn maskN false d (.head _) rfl rfl rfl (fun _ => rfl)
  | .bmi d => .branchOn maskN true d (.tail _ (.head _)) rfl rfl rfl (fun _ => rfl)
  | .bvc d => .branchOn maskV false d (.tail _ (.tail _ (.head _))) rfl rfl rfl (fun _ => rfl)
  | .bvs d => .branchOn maskV true d (.tail _ (.tail _ (.tail _ (.head _)))) rfl rfl rfl (fun _ => rfl)
  | .bcc d => .branchOn maskC false d (.tail _ (.tail _ (.tail _ (.tail _ (.head _))))) rfl rfl rfl (fun _ => rfl)
  | .bcs d => .branchOn maskC true d (.tail _ (.tail _ (.tail _ (.tail _ (.tail _ (.head _)))))) rfl rfl rfl (fun _ => rfl)
  | .bne d => .branchOn maskZ false d (.tail _ (.tail _ (.tail _ (.tail _ (.tail _ (.tail _ (.head _))))))) rfl rfl rfl (fun _ => rfl)
  | .beq d => .branchOn maskZ true d (.tail _ (.tail _ (.tail _ (.tail _ (.tail _ (.tail _ (.tail _ (.head _)))))))) rfl rfl rfl (fun _ => rfl)
  | .brk => .brk rfl
  | .adcIzx z => .addOperand (.memory (.preIndexed z)) rfl rfl (stepCost_readFixed rfl (fun _ => rfl)) (fun _ => rfl)
  | .adcZp z => .addOperand (.memory (.zeroPage z)) rfl rfl (stepCost_readFixed rfl (fun _ => rfl)) (fun _ => rfl)
  | .adcImm v => .addOperand (.immediate v) rfl rfl (stepCost_none rfl) (fun _ => rfl)
  | .adcAbs w => .addOperand (.memory (.absolute w)) rfl rfl (stepCost_readFixed rfl (fun _ => rfl)) (fun _ => rfl)
  | .adcIzy z => .addOperand (.memory (.postIndexed z)) rfl rfl (stepCost_read rfl rfl) (fun _ => rfl)
  | .adcZpx z => .addOperand (.memory (.zeroPageX z)) rfl rfl (stepCost_readFixed rfl (fun _ => rfl)) (fun _ => rfl)
  | .adcAby w => .addOperand (.memory (.absoluteY w)) rfl rfl (stepCost_read rfl rfl) (fun _ => rfl)
  | .adcAbx w => .addOperand (.memory (.absoluteX w)) rfl rfl (stepCost_read rfl rfl) (fun _ => rfl)
  | .sbcIzx z => .subOperand (.memory (.preIndexed z)) rfl rfl (stepCost_readFixed rfl (fun _ => rfl)) (fun _ => rfl)
  | .sbcZp z => .subOperand (.memory (.zeroPage z)) rfl rfl (stepCost_readFixed rfl (fun _ => rfl)) (fun _ => rfl)
  | .sbcImm v => .subOperand (.immediate v) rfl rfl (stepCost_none rfl) (fun _ => rfl)
  | .sbcAbs w => .subOperand (.memory (.absolute w)) rfl rfl (stepCost_readFixed rfl (fun _ => rfl)) (fun _ => rfl)
  | .sbcIzy z => .subOperand (.memory (.postIndexed z)) rfl rfl (stepCost_read rfl rfl) (fun _ => rfl)
  | .sbcZpx z => .subOperand (.memory (.zeroPageX z)) rfl rfl (stepCost_readFixed rfl (fun _ => rfl)) (fun _ => rfl)
  | .sbcAby w => .subOperand (.memory (.absoluteY w)) rfl rfl (stepCost_read rfl rfl) (fun _ => rfl)
  | .sbcAbx w => .subOperand (.memory (.absoluteX w)) rfl rfl (stepCost_read rfl rfl) (fun _ => rfl)
  | .aslZp z => .modifyMemory aslByte (.zeroPage z) (.tail _ (.tail _ (.head _))) rfl (stepCost_writeFixed rfl (fun _ => rfl)) (fun _ => rfl)
  | .aslAcc => .modifyAccumulator aslByte (.head _) rfl (stepCost_none rfl) (fun _ => rfl)
  | .aslAbs w => .modifyMemory aslByte (.absolute w) (.tail _ (.tail _ (.head _))) rfl (stepCost_writeFixed rfl (fun _ => rfl)) (fun _ => rfl)
  | .aslZpx z => .modifyMemory aslByte (.zeroPageX z) (.tail _ (.tail _ (.head _))) rfl (stepCost_writeFixed rfl (fun _ => rfl)) (fun _ => rfl)
  | .aslAbx w => .modifyMemory aslByte (.absoluteX w) (.tail _ (.tail _ (.head _))) rfl (stepCost_write rfl rfl) (fun _ => rfl)
  | .lsrZp z => .modifyMemory lsrByte (.zeroPage z) (.tail _ (.tail _ (.tail _ (.head _)))) rfl (stepCost_writeFixed rfl (fun _ => rfl)) (fun _ => rfl)
  | .lsrAcc => .modifyAccumulator lsrByte (.tail _ (.head _)) rfl (stepCost_none rfl) (fun _ => rfl)
  | .lsrAbs w => .modifyMemory lsrByte (.absolute w) (.tail _ (.tail _ (.tail _ (.head _)))) rfl (stepCost_writeFixed rfl (fun _ => rfl)) (fun _ => rfl)
  | .lsrZpx z => .modifyMemory lsrByte (.zeroPageX z) (.tail _ (.tail _ (.tail _ (.head _)))) rfl (stepCost_writeFixed rfl (fun _ => rfl)) (fun _ => rfl)
  | .lsrAbx w => .modifyMemory lsrByte (.absoluteX w) (.tail _ (.tail _ (.tail _ (.head _)))) rfl (stepCost_write rfl rfl) (fun _ => rfl)
  | .rolZp z => .modifyMemory rolByte (.zeroPage z) (.tail _ (.tail _ (.tail _ (.tail _ (.head _))))) rfl (stepCost_writeFixed rfl (fun _ => rfl)) (fun _ => rfl)
  | .rolAcc => .modifyAccumulator rolByte (.tail _ (.tail _ (.head _))) rfl (stepCost_none rfl) (fun _ => rfl)
  | .rolAbs w => .modifyMemory rolByte (.absolute w) (.tail _ (.tail _ (.tail _ (.tail _ (.head _))))) rfl (stepCost_writeFixed rfl (fun _ => rfl)) (fun _ => rfl)
  | .rolZpx z => .modifyMemory rolByte (.zeroPageX z) (.tail _ (.tail _ (.tail _ (.tail _ (.head _))))) rfl (stepCost_writeFixed rfl (fun _ => rfl)) (fun _ => rfl)
  | .rolAbx w => .modifyMemory rolByte (.absoluteX w) (.tail _ (.tail _ (.tail _ (.tail _ (.head _))))) rfl (stepCost_write rfl rfl) (fun _ => rfl)
  | .rorZp z => .modifyMemory rorByte (.zeroPage z) (.tail _ (.tail _ (.tail _ (.tail _ (.tail _ (.head _)))))) rfl (stepCost_writeFixed rfl (fun _ => rfl)) (fun _ => rfl)
  | .rorAcc => .modifyAccumulator rorByte (.tail _ (.tail _ (.tail _ (.head _)))) rfl (stepCost_none rfl) (fun _ => rfl)
  | .rorAbs w => .modifyMemory rorByte (.absolute w) (.tail _ (.tail _ (.tail _ (.tail _ (.tail _ (.head _)))))) rfl (stepCost_writeFixed rfl (fun _ => rfl)) (fun _ => rfl)
  | .rorZpx z => .modifyMemory rorByte (.zeroPageX z) (.tail _ (.tail _ (.tail _ (.tail _ (.tail _ (.head _)))))) rfl (stepCost_writeFixed rfl (fun _ => rfl)) (fun _ => rfl)
  | .rorAbx w => .modifyMemory rorByte (.absoluteX w) (.tail _ (.tail _ (.tail _ (.tail _ (.tail _ (.head _)))))) rfl (stepCost_write rfl rfl) (fun _ => rfl)
  | .oraIzx z => .combine (· ||| ·) (.memory (.preIndexed z)) (.head _) rfl (stepCost_readFixed rfl (fun _ => rfl)) (fun _ => rfl)
  | .oraZp z => .combine (· ||| ·) (.memory (.zeroPage z)) (.head _) rfl (stepCost_readFixed rfl (fun _ => rfl)) (fun _ => rfl)
  | .oraImm v => .combine (· ||| ·) (.immediate v) (.head _) rfl (stepCost_none rfl) (fun _ => rfl)
  | .oraAbs w => .combine (· ||| ·) (.memory (.absolute w)) (.head _) rfl (stepCost_readFixed rfl (fun _ => rfl)) (fun _ => rfl)
  | .oraIzy z => .combine (· ||| ·) (.memory (.postIndexed z)) (.head _) rfl (stepCost_read rfl rfl) (fun _ => rfl)
  | .oraZpx z => .combine (· ||| ·) (.memory (.zeroPageX z)) (.head _) rfl (stepCost_readFixed rfl (fun _ => rfl)) (fun _ => rfl)
  | .oraAby w => .combine (· ||| ·) (.memory (.absoluteY w)) (.head _) rfl (stepCost_read rfl rfl) (fun _ => rfl)
  | .oraAbx w => .combine (· ||| ·) (.memory (.absoluteX w)) (.head _) rfl (stepCost_read rfl rfl) (fun _ => rfl)
  | .andIzx z => .combine (· &&& ·) (.memory (.preIndexed z)) (.tail _ (.head _)) rfl (stepCost_readFixed rfl (fun _ => rfl)) (fun _ => rfl)
  | .andZp z => .combine (· &&& ·) (.memory (.zeroPage z)) (.tail _ (.head _)) rfl (stepCost_readFixed rfl (fun _ => rfl)) (fun _ => rfl)
  | .andImm v => .combine (· &&& ·) (.immediate v) (.tail _ (.head _)) rfl (stepCost_none rfl) (fun _ => rfl)
  | .andAbs w => .combine (· &&& ·) (.memory (.absolute w)) (.tail _ (.head _)) rfl (stepCost_readFixed rfl (fun _ => rfl)) (fun _ => rfl)
  | .andIzy z => .combine (· &&& ·) (.memory (.postIndexed z)) (.tail _ (.head _)) rfl (stepCost_read rfl rfl) (fun _ => rfl)
  | .andZpx z => .combine (· &&& ·) (.memory (.zeroPageX z)) (.tail _ (.head _)) rfl (stepCost_readFixed rfl (fun _ => rfl)) (fun _ => rfl)
  | .andAby w => .combine (· &&& ·) (.memory (.absoluteY w)) (.tail _ (.head _)) rfl (stepCost_read rfl rfl) (fun _ => rfl)
  | .andAbx w => .combine (· &&& ·) (.memory (.absoluteX w)) (.tail _ (.head _)) rfl (stepCost_read rfl rfl) (fun _ => rfl)
  | .eorIzx z => .combine (· ^^^ ·) (.memory (.preIndexed z)) (.tail _ (.tail _ (.head _))) rfl (stepCost_readFixed rfl (fun _ => rfl)) (fun _ => rfl)
  | .eorZp z => .combine (· ^^^ ·) (.memory (.zeroPage z)) (.tail _ (.tail _ (.head _))) rfl (stepCost_readFixed rfl (fun _ => rfl)) (fun _ => rfl)
  | .eorImm v => .combine (· ^^^ ·) (.immediate v) (.tail _ (.tail _ (.head _))) rfl (stepCost_none rfl) (fun _ => rfl)
  | .eorAbs w => .combine (· ^^^ ·) (.memory (.absolute w)) (.tail _ (.tail _ (.head _))) rfl (stepCost_readFixed rfl (fun _ => rfl)) (fun _ => rfl)
  | .eorIzy z => .combine (· ^^^ ·) (.memory (.postIndexed z)) (.tail _ (.tail _ (.head _))) rfl (stepCost_read rfl rfl) (fun _ => rfl)
  | .eorZpx z => .combine (· ^^^ ·) (.memory (.zeroPageX z)) (.tail _ (.tail _ (.head _))) rfl (stepCost_readFixed rfl (fun _ => rfl)) (fun _ => rfl)
  | .eorAby w => .combine (· ^^^ ·) (.memory (.absoluteY w)) (.tail _ (.tail _ (.head _))) rfl (stepCost_read rfl rfl) (fun _ => rfl)
  | .eorAbx w => .combine (· ^^^ ·) (.memory (.absoluteX w)) (.tail _ (.tail _ (.head _))) rfl (stepCost_read rfl rfl) (fun _ => rfl)
  | .bitZp z => .bitTest (.zeroPage z) rfl rfl (stepCost_readFixed rfl (fun _ => rfl)) (fun _ => rfl)
  | .bitAbs w => .bitTest (.absolute w) rfl rfl (stepCost_readFixed rfl (fun _ => rfl)) (fun _ => rfl)
  | .cmpIzx z => .compareRegister .a (.memory (.preIndexed z)) (.head _) rfl (stepCost_readFixed rfl (fun _ => rfl)) (fun _ => rfl)
  | .cmpZp z => .compareRegister .a (.memory (.zeroPage z)) (.head _) rfl (stepCost_readFixed rfl (fun _ => rfl)) (fun _ => rfl)
  | .cmpImm v => .compareRegister .a (.immediate v) (.head _) rfl (stepCost_none rfl) (fun _ => rfl)
  | .cmpAbs w => .compareRegister .a (.memory (.absolute w)) (.head _) rfl (stepCost_readFixed rfl (fun _ => rfl)) (fun _ => rfl)
  | .cmpIzy z => .compareRegister .a (.memory (.postIndexed z)) (.head _) rfl (stepCost_read rfl rfl) (fun _ => rfl)
  | .cmpZpx z => .compareRegister .a (.memory (.zeroPageX z)) (.head _) rfl (stepCost_readFixed rfl (fun _ => rfl)) (fun _ => rfl)
  | .cmpAby w => .compareRegister .a (.memory (.absoluteY w)) (.head _) rfl (stepCost_read rfl rfl) (fun _ => rfl)
  | .cmpAbx w => .compareRegister .a (.memory (.absoluteX w)) (.head _) rfl (stepCost_read rfl rfl) (fun _ => rfl)
  | .cpxImm v => .compareRegister .x (.immediate v) (.tail _ (.head _)) rfl (stepCost_none rfl) (fun _ => rfl)
  | .cpxZp z => .compareRegister .x (.memory (.zeroPage z)) (.tail _ (.head _)) rfl (stepCost_readFixed rfl (fun _ => rfl)) (fun _ => rfl)
  | .cpxAbs w => .compareRegister .x (.memory (.absolute w)) (.tail _ (.head _)) rfl (stepCost_readFixed rfl (fun _ => rfl)) (fun _ => rfl)
  | .cpyImm v => .compareRegister .y (.immediate v) (.tail _ (.tail _ (.head _))) rfl (stepCost_none rfl) (fun _ => rfl)
  | .cpyZp z => .compareRegister .y (.memory (.zeroPage z)) (.tail _ (.tail _ (.head _))) rfl (stepCost_readFixed rfl (fun _ => rfl)) (fun _ => rfl)
  | .cpyAbs w => .compareRegister .y (.memory (.absolute w)) (.tail _ (.tail _ (.head _))) rfl (stepCost_readFixed rfl (fun _ => rfl)) (fun _ => rfl)
  | .jmpAbs w => .jump (fun _ => w) (.inl ⟨w, rfl, rfl⟩) rfl (stepCost_none rfl) (fun _ => rfl)
  | .jmpInd p => .jump (indirectTarget p) (.inr ⟨p, rfl, rfl⟩) rfl (stepCost_none rfl) (fun _ => rfl)
  | .jsr w => .jsr w rfl
  | .rts => .rts rfl
  | .rti => .rti rfl
  | .nop => .nop rfl

end Sys2Proof.Machine
end

