-- ==== Sys2Proof/Laws/Exec.lean ====
section
/-! SUPPORT. What the pieces of a meaning leave behind, in the words of Safety.lean: registers and memory through the
epilogue, and the flags that follow a result. -/

namespace Sys2Proof.Machine

theorem endStep_reg (s : State) (w : Word) (n : Nat) (q : Reg8) : ((s.setPc w).addCost n).reg q = s.reg q := by
  cases q <;> rfl

theorem endStep_peek (s : State) (w : Word) (n : Nat) (b : Word) : ((s.setPc w).addCost n).peek b = s.peek b := rfl

theorem State.setFlags_peek (s : State) (f : Byte) (b : Word) : (s.setFlags f).peek b = s.peek b := rfl

theorem State.setReg_peek (s : State) (r : Reg8) (v : Byte) (b : Word) : (s.setReg r v).peek b = s.peek b := by
  cases r <;> rfl

theorem State.setFlags_reg (s : State) (f : Byte) {q : Reg8} (h : q ≠ .flags) : (s.setFlags f).reg q = s.reg q := by
  cases q <;> first | rfl | exact absurd rfl h

theorem State.poke_reg (s : State) (a : Word) (v : Byte) (q : Reg8) : (s.poke a v).reg q = s.reg q := by
  cases q <;> rfl

/-- The epilogue of an executor that left PC, CYC and the parameters alone. -/
theorem endStep_passes {i : Instr} {s s' : State} {n : Nat} (hc : stepCost i s = i.entry.baseCycles + n)
    (hpc : s'.pc = s.pc) (hcyc : s'.cyc = s.cyc) (hcfg : s'.cfg = s.cfg) :
    Passes i s ((s'.setPc (s'.nextPc i.entry.length)).addCost (i.entry.baseCycles + n)) :=
  ⟨by simp [State.nextPc, hpc], by simp [hc, hcyc, hcfg], by simp [hcfg]⟩

/-- `SetZN` leaves Zero and Negative of the byte (R28). -/
theorem setZN_follow (v f : Byte) : ZNFollow v f (setZN v f) :=
  ⟨by rw [getLsbD_setZN]; rfl, by rw [getLsbD_setZN]; rfl, fun k h1 h7 => by rw [getLsbD_setZN, if_neg h7, if_neg h1]⟩

/-- `SetZN` after a write of Carry. -/
theorem setZN_carry_follow (c : Bool) (v f : Byte) : CZNFollow c v f (setZN v (flagSet maskC c f)) := by
  refine ⟨?_, ?_, ?_, ?_⟩
  · simp only [getLsbD_setZN, getLsbD_flagSet, getLsbD_maskC]; rfl
  · rw [getLsbD_setZN]; rfl
  · rw [getLsbD_setZN]; rfl
  · intro k h0 h1 h7
    rw [getLsbD_setZN, if_neg h7, if_neg h1, getLsbD_flagSet, getLsbD_maskC]
    simp [h0]

/-- ASL and LSR in numbers (R180, R181). -/
theorem toNat_shiftLeft_one (v : Byte) : (v <<< 1).toNat = 2 * v.toNat % 256 ∧ v.getLsbD 7 = decide (128 ≤ v.toNat) := by
  revert v; decide

theorem toNat_shiftRight_one (v : Byte) : (v >>> 1).toNat = v.toNat / 2 ∧ v.getLsbD 0 = decide (v.toNat % 2 = 1) := by
  revert v; decide

/-- ROL in numbers (R182). -/
theorem toNat_rolByte (v f : Byte) : (rolByte v f).1.toNat = (2 * v.toNat + (f.getLsbD 0).toNat) % 256 := by
  have h : ∀ (v : Byte) (c : Bool), ((v <<< 1) ||| (if c then 0x01 else 0x00)).toNat = (2 * v.toNat + c.toNat) % 256 := by
    decide
  rw [← flagGet_maskC]
  exact h _ _

/-- ROR in numbers (R183). -/
theorem toNat_rorByte (v f : Byte) : (rorByte v f).1.toNat = v.toNat / 2 + 128 * (f.getLsbD 0).toNat := by
  have h : ∀ (v : Byte) (c : Bool), ((v >>> 1) ||| (if c then 0x80 else 0x00)).toNat = v.toNat / 2 + 128 * c.toNat := by
    decide
  rw [← flagGet_maskC]
  exact h _ _

/-- A step runs the instruction whose entry the byte at PC looks up, or that byte has no entry and the step is a decode
error (R79, R300). -/
theorem step_cases (s : State) :
    (∃ i, lookup s.cfg.extNmos (s.peek s.pc) = some i.entry ∧ fetch s = .ok i ∧ step s = exec i s ∧
      ∃ r, decode s.cfg.extNmos [s.peek s.pc, s.peek (s.pc + 1), s.peek (s.pc + 2)] = .ok (i, r)) ∨
    (lookup s.cfg.extNmos (s.peek s.pc) = none ∧ fetch s = .error (.invalidOpcode (s.peek s.pc)) ∧
      step s = .fault (.decodeError (s.peek s.pc) s.pc)) := by
  cases hl : lookup s.cfg.extNmos (s.peek s.pc) with
  | some e =>
    obtain ⟨i, rfl, h3, r, hd⟩ := decode_of_lookup hl (s.peek (s.pc + 1)) (s.peek (s.pc + 2))
    have hf : fetch s = .ok i := by simp only [fetch, fetchBytes, hl, hd]
    exact .inl ⟨i, rfl, hf, by simp only [step, hf], h3⟩
  | none =>
    have hf : fetch s = .error (.invalidOpcode (s.peek s.pc)) := by
      simp only [fetch, fetchBytes, hl, decode_of_lookup_none hl]
    exact .inr ⟨rfl, hf, by simp only [step, hf]⟩

/-- A step that completes is the executor of the instruction it fetched. -/
theorem exec_of_step {s t : State} (h : step s = .next t) : ∃ i, fetch s = .ok i ∧ exec i s = .next t := by
  rcases step_cases s with ⟨i, -, hf, hs, -⟩ | ⟨-, -, hs⟩
  · exact ⟨i, hf, hs ▸ h⟩
  · rw [hs] at h; cases h

end Sys2Proof.Machine
end

