-- ==== Sys2Proof/Laws/Next.lean ====
section
/-! SUPPORT. What any instruction can do, said once: whatever completes left a body state, then moved PC and added its
cost. Proofs about every instruction start from `exec_next`. -/

namespace Sys2Proof.Machine

/-- The mnemonics that store: the stores, INC, DEC, the pushes, BRK and JSR. -/
abbrev Stores (i : Instr) : Prop :=
  i.entry.mnemonic ∈ [Mnemonic.STA, .STX, .STY, .INC, .DEC, .PHA, .PHP, .BRK, .JSR] ∨
    (i.entry.mnemonic ∈ [Mnemonic.ASL, .LSR, .ROL, .ROR] ∧ i.operand ≠ .implicit)

/-- What holds of the state `u` that the body of `i` leaves and of the PC value `w` that the epilogue writes. -/
structure Executed (i : Instr) (s u : State) (w : Word) : Prop where
  cyc : u.cyc = s.cyc
  cfg : u.cfg = s.cfg
  wf : s.mem.wf = true → u.mem.wf = true
  breakBit : u.flags.getLsbD 4 = true → s.flags.getLsbD 4 = true
  pc : w = s.pc + BitVec.ofNat 16 i.entry.length ∨
    (mayOwnPc i.entry.mnemonic = true ∧ (branchTest i.entry.mnemonic ≠ none → branchTaken i s = true))
  mem : u.mem = s.mem ∨ Stores i

/-- `i` completes in `t`. -/
def Completed (i : Instr) (s t : State) : Prop :=
  ∃ n u w, stepCost i s = i.entry.baseCycles + n ∧ t = (u.setPc w).addCost (i.entry.baseCycles + n) ∧ Executed i s u w

theorem completed_of_endStep {i : Instr} {s u t : State} {n : Nat} (hc : stepCost i s = i.entry.baseCycles + n)
    (h : endStep i.entry n u = .next t) (hpc : u.pc = s.pc) (hcyc : u.cyc = s.cyc) (hcfg : u.cfg = s.cfg)
    (hwf : s.mem.wf = true → u.mem.wf = true) (hb : u.flags.getLsbD 4 = true → s.flags.getLsbD 4 = true)
    (hm : u.mem = s.mem ∨ Stores i) : Completed i s t := by
  simp only [endStep] at h
  cases h
  exact ⟨n, u, _, hc, rfl, hcyc, hcfg, hwf, hb, .inl (by simp [State.nextPc, hpc]), hm⟩

/-- No byte function of a read-modify-write touches bit 4. -/
theorem breakBit_byteFn {fn : Byte → Byte → Byte × Byte} {mn : Mnemonic}
    (hm : (mn, fn) ∈ [(Mnemonic.INC, incByte), (.DEC, decByte), (.ASL, aslByte), (.LSR, lsrByte), (.ROL, rolByte),
      (.ROR, rorByte)]) (v g : Byte) :
    (fn v g).2.getLsbD 4 = g.getLsbD 4 ∧ ((mn = .INC ∨ mn = .DEC) ∨ mn ∈ [Mnemonic.ASL, .LSR, .ROL, .ROR]) := by
  simp at hm
  rcases hm with ⟨rfl,rfl⟩ | ⟨rfl,rfl⟩ | ⟨rfl,rfl⟩ | ⟨rfl,rfl⟩ | ⟨rfl,rfl⟩ | ⟨rfl,rfl⟩ <;>
    simp [-BitVec.getLsbD_eq_getElem, incByte, decByte, aslByte, lsrByte, rolByte, rorByte, getLsbD_flagSet, getLsbD_maskC]

theorem completed_brk {s t : State} (h : exec .brk s = .next t) : Completed .brk s t := by
  have : exec .brk s = .next (((takeTrap s).setPc (takeTrap s).pc).addCost 7) := rfl
  rw [this] at h; cases h
  obtain ⟨-, -, -, -, hf, hcy, hcf, -⟩ := takeTrap_fields s
  refine ⟨0, takeTrap s, _, stepCost_none rfl s, rfl, hcy, hcf, wf_takeTrap, ?_,
    .inr ⟨rfl, fun h => absurd rfl h⟩, .inr (.inl (by simp [Instr.entry]))⟩
  rw [hf]; simp [-BitVec.getLsbD_eq_getElem, getLsbD_flagSet, getLsbD_maskI]

theorem completed_rti {s t : State} (h : exec .rti s = .next t) : Completed .rti s t := by
  have : exec .rti s = .next (((returnFromTrap s).setPc (returnFromTrap s).pc).addCost 6) := rfl
  rw [this] at h; cases h
  obtain ⟨-, -, -, -, hf, -, hm, hcy, hcf⟩ := returnFromTrap_fields s
  refine ⟨0, returnFromTrap s, _, stepCost_none rfl s, rfl, hcy, hcf, fun h => hm ▸ h, ?_,
    .inr ⟨rfl, fun h => absurd rfl h⟩, .inl hm⟩
  rw [hf]; simp [-BitVec.getLsbD_eq_getElem, getLsbD_restoredFlags]

/-- The inversion of `exec`: every instruction, everything it can do to these parts of the state. -/
theorem exec_next {i : Instr} {s t : State} (h : exec i s = .next t) : Completed i s t := by
  cases shape i with
  | load _ _ _ _ hc he =>
    rw [he] at h
    refine completed_of_endStep (hc s) h ?_ ?_ ?_ ?_ ?_ ?_ <;>
      simp [-BitVec.getLsbD_eq_getElem, getLsbD_setZN]
  | store _ _ hm _ hc he =>
    rw [he] at h
    refine completed_of_endStep (hc s) h ?_ ?_ ?_ ?_ ?_ (.inr (.inl ?_)) <;> simp
    · exact fun h => Memory.wf_poke h _ _
    · simp at hm
      rcases hm with ⟨h, _⟩ | ⟨h, _⟩ | ⟨h, _⟩ <;> simp [h]
  | modifyMemory _ _ hm ho hc he =>
    rw [he] at h
    refine completed_of_endStep (hc s) h ?_ ?_ ?_ ?_ ?_ (.inr ?_)
    all_goals try simp [-BitVec.getLsbD_eq_getElem, getLsbD_setZN, (breakBit_byteFn hm _ _).1]
    · exact fun h => Memory.wf_poke h _ _
    · have := (breakBit_byteFn hm 0 0).2
      simp at this
      rcases this with (h | h) | (h | h | h | h) <;> simp [Stores, h, ho]
  | modifyAccumulator _ hm _ hc he =>
    rw [he] at h
    refine completed_of_endStep (hc s) h ?_ ?_ ?_ ?_ ?_ ?_ <;>
      simp [-BitVec.getLsbD_eq_getElem, getLsbD_setZN, (breakBit_byteFn (.tail _ (.tail _ hm)) _ _).1]
  | setRegister _ _ _ hc he =>
    rw [he] at h
    refine completed_of_endStep (hc s) h ?_ ?_ ?_ ?_ ?_ ?_ <;>
      simp [-BitVec.getLsbD_eq_getElem, getLsbD_setZN]
  | txs hm =>
    subst hm
    exact completed_of_endStep (stepCost_none rfl s) h rfl rfl rfl id id (.inl rfl)
  | writeFlag _ _ hm hc he =>
    rw [he] at h
    refine completed_of_endStep (hc s) h ?_ ?_ ?_ ?_ ?_ ?_ <;>
      simp [-BitVec.getLsbD_eq_getElem, getLsbD_flagSet]
    simp at hm
    rcases hm with h | h | h | h | h | h | h <;> rcases h with ⟨_, rfl, rfl⟩ <;>
      simp [-BitVec.getLsbD_eq_getElem, getLsbD_maskC, getLsbD_maskI, getLsbD_maskD, getLsbD_maskV]
  | pushRegister _ hm hc he =>
    rw [he] at h
    refine completed_of_endStep (hc s) h ?_ ?_ ?_ ?_ ?_ (.inr (.inl ?_)) <;> simp
    · exact fun h => Memory.wf_poke h _ _
    · simp at hm
      rcases hm with ⟨h, _⟩ | ⟨h, _⟩ <;> simp [h]
  | pla hm =>
    subst hm
    exact completed_of_endStep (stepCost_none rfl s) h rfl rfl rfl id (by simp [-BitVec.getLsbD_eq_getElem, getLsbD_setZN]) (.inl rfl)
  | plp hm =>
    subst hm
    exact completed_of_endStep (stepCost_none rfl s) h rfl rfl rfl id (by simp [-BitVec.getLsbD_eq_getElem, getLsbD_restoredFlags]) (.inl rfl)
  | branchOn m v d hm ho hp ht he =>
    rw [he] at h
    rcases branchOn_cases m v i.entry d s with ⟨h1, h2⟩ | ⟨h1, h2⟩ <;> rw [h2] at h
    · simp only [endStepAt] at h
      cases h
      refine ⟨_, s, _, stepCost_taken hp ho ht h1, rfl, rfl, rfl, id, id, .inr ⟨?_, fun _ => by simp [branchTaken, ht, h1]⟩, .inl rfl⟩
      simp at hm
      rcases hm with h | h | h | h | h | h | h | h <;> simp [h.1, mayOwnPc]
    · exact completed_of_endStep (stepCost_notTaken hp ho ht h1) h rfl rfl rfl id id (.inl rfl)
  | brk hm =>
    subst hm
    exact completed_brk h
  | rti hm =>
    subst hm
    exact completed_rti h
  | addOperand src _ _ hc he =>
    rw [he] at h
    unfold addOperand at h
    rcases adderStep_cases (sourceByte src s) (readPenalty src s) i.entry s with ⟨_, h2⟩ | ⟨_, h2⟩ <;> rw [h2] at h
    · cases h
    · refine completed_of_endStep (hc s) h ?_ ?_ ?_ ?_ ?_ ?_ <;>
      simp [-BitVec.getLsbD_eq_getElem, getLsbD_setAdderFlags]
  | subOperand src _ _ hc he =>
    rw [he] at h
    unfold subOperand at h
    rcases adderStep_cases (~~~(sourceByte src s)) (readPenalty src s) i.entry s with ⟨_, h2⟩ | ⟨_, h2⟩ <;> rw [h2] at h
    · cases h
    · refine completed_of_endStep (hc s) h ?_ ?_ ?_ ?_ ?_ ?_ <;>
      simp [-BitVec.getLsbD_eq_getElem, getLsbD_setAdderFlags]
  | combine _ _ _ _ hc he =>
    rw [he] at h
    refine completed_of_endStep (hc s) h ?_ ?_ ?_ ?_ ?_ ?_ <;>
      simp [-BitVec.getLsbD_eq_getElem, getLsbD_setZN]
  | bitTest _ _ _ hc he =>
    rw [he] at h
    refine completed_of_endStep (hc s) h ?_ ?_ ?_ ?_ ?_ ?_ <;>
      simp [-BitVec.getLsbD_eq_getElem, getLsbD_bitFlags]
  | compareRegister _ _ _ _ hc he =>
    rw [he] at h
    refine completed_of_endStep (hc s) h ?_ ?_ ?_ ?_ ?_ ?_ <;>
      simp [-BitVec.getLsbD_eq_getElem, getLsbD_compareFlags]
  | jump _ _ hn hc he =>
    rw [he] at h
    simp only [endStepAt] at h
    cases h
    exact ⟨0, s, _, hc s, rfl, rfl, rfl, id, id, .inr ⟨by simp [hn, mayOwnPc], by simp [hn, branchTest]⟩, .inl rfl⟩
  | jsr _ hm =>
    subst hm
    simp only [exec, execJsr, endStepAt] at h
    cases h
    exact ⟨0, s.push16 (s.pc + 2), _, stepCost_none rfl s, rfl, rfl, rfl, fun h => State.wf_push16 h _, id, .inr ⟨rfl, fun h => absurd rfl h⟩, .inr (.inl (by simp [Instr.entry]))⟩
  | rts hm =>
    subst hm
    simp only [exec, execRts, endStepAt] at h
    cases h
    exact ⟨0, s.pull16, _, stepCost_none rfl s, rfl, rfl, rfl, id, id, .inr ⟨rfl, fun h => absurd rfl h⟩, .inl rfl⟩
  | nop hm =>
    subst hm
    exact completed_of_endStep (stepCost_none rfl s) h rfl rfl rfl id id (.inl rfl)

end Sys2Proof.Machine
end

