-- ==== Sys2Proof/Laws/PerInstr.lean ====
section
/-! SUPPORT. Facts proved once per constructor of Instr: the encoding is as long as the entry says (R71), and the opcode
table holds the instruction's entry under its opcode (R72, R74, R75). -/

namespace Sys2Proof.Laws

/-- The encoding has the entry's length, and the entry's mode is the operand's. -/
def EncodedLength.Statement (i : Instr) : Prop :=
  (encode i).length = i.entry.length ∧ i.operand.mode = i.entry.mode

/-- The opcode of an instruction looks up its entry, in the whole table and, for the core set, in the default one. -/
def OpcodeRow.Statement (i : Instr) : Prop :=
  lookup true i.entry.opcode = some i.entry ∧
    lookup false i.entry.opcode = (if i.entry.set = .core then some i.entry else none)

theorem EncodedLength.ldaIzx (z : Byte) : EncodedLength.Statement (.ldaIzx z) := ⟨rfl, rfl⟩
theorem EncodedLength.ldaZp (z : Byte) : EncodedLength.Statement (.ldaZp z) := ⟨rfl, rfl⟩
theorem EncodedLength.ldaImm (v : Byte) : EncodedLength.Statement (.ldaImm v) := ⟨rfl, rfl⟩
theorem EncodedLength.ldaAbs (w : Word) : EncodedLength.Statement (.ldaAbs w) := ⟨rfl, rfl⟩
theorem EncodedLength.ldaIzy (z : Byte) : EncodedLength.Statement (.ldaIzy z) := ⟨rfl, rfl⟩
theorem EncodedLength.ldaZpx (z : Byte) : EncodedLength.Statement (.ldaZpx z) := ⟨rfl, rfl⟩
theorem EncodedLength.ldaAby (w : Word) : EncodedLength.Statement (.ldaAby w) := ⟨rfl, rfl⟩
theorem EncodedLength.ldaAbx (w : Word) : EncodedLength.Statement (.ldaAbx w) := ⟨rfl, rfl⟩
theorem EncodedLength.ldxImm (v : Byte) : EncodedLength.Statement (.ldxImm v) := ⟨rfl, rfl⟩
theorem EncodedLength.ldxZp (z : Byte) : EncodedLength.Statement (.ldxZp z) := ⟨rfl, rfl⟩
theorem EncodedLength.ldxAbs (w : Word) : EncodedLength.Statement (.ldxAbs w) := ⟨rfl, rfl⟩
theorem EncodedLength.ldxZpy (z : Byte) : EncodedLength.Statement (.ldxZpy z) := ⟨rfl, rfl⟩
theorem EncodedLength.ldxAby (w : Word) : EncodedLength.Statement (.ldxAby w) := ⟨rfl, rfl⟩
theorem EncodedLength.ldyImm (v : Byte) : EncodedLength.Statement (.ldyImm v) := ⟨rfl, rfl⟩
theorem EncodedLength.ldyZp (z : Byte) : EncodedLength.Statement (.ldyZp z) := ⟨rfl, rfl⟩
theorem EncodedLength.ldyAbs (w : Word) : EncodedLength.Statement (.ldyAbs w) := ⟨rfl, rfl⟩
theorem EncodedLength.ldyZpx (z : Byte) : EncodedLength.Statement (.ldyZpx z) := ⟨rfl, rfl⟩
theorem EncodedLength.ldyAbx (w : Word) : EncodedLength.Statement (.ldyAbx w) := ⟨rfl, rfl⟩
theorem EncodedLength.staIzx (z : Byte) : EncodedLength.Statement (.staIzx z) := ⟨rfl, rfl⟩
theorem EncodedLength.staZp (z : Byte) : EncodedLength.Statement (.staZp z) := ⟨rfl, rfl⟩
theorem EncodedLength.staAbs (w : Word) : EncodedLength.Statement (.staAbs w) := ⟨rfl, rfl⟩
theorem EncodedLength.staIzy (z : Byte) : EncodedLength.Statement (.staIzy z) := ⟨rfl, rfl⟩
theorem EncodedLength.staZpx (z : Byte) : EncodedLength.Statement (.staZpx z) := ⟨rfl, rfl⟩
theorem EncodedLength.staAby (w : Word) : EncodedLength.Statement (.staAby w) := ⟨rfl, rfl⟩
theorem EncodedLength.staAbx (w : Word) : EncodedLength.Statement (.staAbx w) := ⟨rfl, rfl⟩
theorem EncodedLength.stxZp (z : Byte) : EncodedLength.Statement (.stxZp z) := ⟨rfl, rfl⟩
theorem EncodedLength.stxAbs (w : Word) : EncodedLength.Statement (.stxAbs w) := ⟨rfl, rfl⟩
theorem EncodedLength.stxZpy (z : Byte) : EncodedLength.Statement (.stxZpy z) := ⟨rfl, rfl⟩
theorem EncodedLength.styZp (z : Byte) : EncodedLength.Statement (.styZp z) := ⟨rfl, rfl⟩
theorem EncodedLength.styAbs (w : Word) : EncodedLength.Statement (.styAbs w) := ⟨rfl, rfl⟩
theorem EncodedLength.styZpx (z : Byte) : EncodedLength.Statement (.styZpx z) := ⟨rfl, rfl⟩
theorem EncodedLength.incZp (z : Byte) : EncodedLength.Statement (.incZp z) := ⟨rfl, rfl⟩
theorem EncodedLength.incAbs (w : Word) : EncodedLength.Statement (.incAbs w) := ⟨rfl, rfl⟩
theorem EncodedLength.incZpx (z : Byte) : EncodedLength.Statement (.incZpx z) := ⟨rfl, rfl⟩
theorem EncodedLength.incAbx (w : Word) : EncodedLength.Statement (.incAbx w) := ⟨rfl, rfl⟩
theorem EncodedLength.decZp (z : Byte) : EncodedLength.Statement (.decZp z) := ⟨rfl, rfl⟩
theorem EncodedLength.decAbs (w : Word) : EncodedLength.Statement (.decAbs w) := ⟨rfl, rfl⟩
theorem EncodedLength.decZpx (z : Byte) : EncodedLength.Statement (.decZpx z) := ⟨rfl, rfl⟩
theorem EncodedLength.decAbx (w : Word) : EncodedLength.Statement (.decAbx w) := ⟨rfl, rfl⟩
theorem EncodedLength.inx : EncodedLength.Statement (.inx) := ⟨rfl, rfl⟩
theorem EncodedLength.iny : EncodedLength.Statement (.iny) := ⟨rfl, rfl⟩
theorem EncodedLength.dex : EncodedLength.Statement (.dex) := ⟨rfl, rfl⟩
theorem EncodedLength.dey : EncodedLength.Statement (.dey) := ⟨rfl, rfl⟩
theorem EncodedLength.tax : EncodedLength.Statement (.tax) := ⟨rfl, rfl⟩
theorem EncodedLength.tay : EncodedLength.Statement (.tay) := ⟨rfl, rfl⟩
theorem EncodedLength.txa : EncodedLength.Statement (.txa) := ⟨rfl, rfl⟩
theorem EncodedLength.tya : EncodedLength.Statement (.tya) := ⟨rfl, rfl⟩
theorem EncodedLength.tsx : EncodedLength.Statement (.tsx) := ⟨rfl, rfl⟩
theorem EncodedLength.txs : EncodedLength.Statement (.txs) := ⟨rfl, rfl⟩
theorem EncodedLength.clc : EncodedLength.Statement (.clc) := ⟨rfl, rfl⟩
theorem EncodedLength.sec : EncodedLength.Statement (.sec) := ⟨rfl, rfl⟩
theorem EncodedLength.cli : EncodedLength.Statement (.cli) := ⟨rfl, rfl⟩
theorem EncodedLength.sei : EncodedLength.Statement (.sei) := ⟨rfl, rfl⟩
theorem EncodedLength.cld : EncodedLength.Statement (.cld) := ⟨rfl, rfl⟩
theorem EncodedLength.sed : EncodedLength.Statement (.sed) := ⟨rfl, rfl⟩
theorem EncodedLength.clv : EncodedLength.Statement (.clv) := ⟨rfl, rfl⟩
theorem EncodedLength.pha : EncodedLength.Statement (.pha) := ⟨rfl, rfl⟩
theorem EncodedLength.php : EncodedLength.Statement (.php) := ⟨rfl, rfl⟩
theorem EncodedLength.pla : EncodedLength.Statement (.pla) := ⟨rfl, rfl⟩
theorem EncodedLength.plp : EncodedLength.Statement (.plp) := ⟨rfl, rfl⟩
theorem EncodedLength.bpl (d : Byte) : EncodedLength.Statement (.bpl d) := ⟨rfl, rfl⟩
theorem EncodedLength.bmi (d : Byte) : EncodedLength.Statement (.bmi d) := ⟨rfl, rfl⟩
theorem EncodedLength.bvc (d : Byte) : EncodedLength.Statement (.bvc d) := ⟨rfl, rfl⟩
theorem EncodedLength.bvs (d : Byte) : EncodedLength.Statement (.bvs d) := ⟨rfl, rfl⟩
theorem EncodedLength.bcc (d : Byte) : EncodedLength.Statement (.bcc d) := ⟨rfl, rfl⟩
theorem EncodedLength.bcs (d : Byte) : EncodedLength.Statement (.bcs d) := ⟨rfl, rfl⟩
theorem EncodedLength.bne (d : Byte) : EncodedLength.Statement (.bne d) := ⟨rfl, rfl⟩
theorem EncodedLength.beq (d : Byte) : EncodedLength.Statement (.beq d) := ⟨rfl, rfl⟩
theorem EncodedLength.brk : EncodedLength.Statement (.brk) := ⟨rfl, rfl⟩
theorem EncodedLength.adcIzx (z : Byte) : EncodedLength.Statement (.adcIzx z) := ⟨rfl, rfl⟩
theorem EncodedLength.adcZp (z : Byte) : EncodedLength.Statement (.adcZp z) := ⟨rfl, rfl⟩
theorem EncodedLength.adcImm (v : Byte) : EncodedLength.Statement (.adcImm v) := ⟨rfl, rfl⟩
theorem EncodedLength.adcAbs (w : Word) : EncodedLength.Statement (.adcAbs w) := ⟨rfl, rfl⟩
theorem EncodedLength.adcIzy (z : Byte) : EncodedLength.Statement (.adcIzy z) := ⟨rfl, rfl⟩
theorem EncodedLength.adcZpx (z : Byte) : EncodedLength.Statement (.adcZpx z) := ⟨rfl, rfl⟩
theorem EncodedLength.adcAby (w : Word) : EncodedLength.Statement (.adcAby w) := ⟨rfl, rfl⟩
theorem EncodedLength.adcAbx (w : Word) : EncodedLength.Statement (.adcAbx w) := ⟨rfl, rfl⟩
theorem EncodedLength.sbcIzx (z : Byte) : EncodedLength.Statement (.sbcIzx z) := ⟨rfl, rfl⟩
theorem EncodedLength.sbcZp (z : Byte) : EncodedLength.Statement (.sbcZp z) := ⟨rfl, rfl⟩
theorem EncodedLength.sbcImm (v : Byte) : EncodedLength.Statement (.sbcImm v) := ⟨rfl, rfl⟩
theorem EncodedLength.sbcAbs (w : Word) : EncodedLength.Statement (.sbcAbs w) := ⟨rfl, rfl⟩
theorem EncodedLength.sbcIzy (z : Byte) : EncodedLength.Statement (.sbcIzy z) := ⟨rfl, rfl⟩
theorem EncodedLength.sbcZpx (z : Byte) : EncodedLength.Statement (.sbcZpx z) := ⟨rfl, rfl⟩
theorem EncodedLength.sbcAby (w : Word) : EncodedLength.Statement (.sbcAby w) := ⟨rfl, rfl⟩
theorem EncodedLength.sbcAbx (w : Word) : EncodedLength.Statement (.sbcAbx w) := ⟨rfl, rfl⟩
theorem EncodedLength.aslZp (z : Byte) : EncodedLength.Statement (.aslZp z) := ⟨rfl, rfl⟩
theorem EncodedLength.aslAcc : EncodedLength.Statement (.aslAcc) := ⟨rfl, rfl⟩
theorem EncodedLength.aslAbs (w : Word) : EncodedLength.Statement (.aslAbs w) := ⟨rfl, rfl⟩
theorem EncodedLength.aslZpx (z : Byte) : EncodedLength.Statement (.aslZpx z) := ⟨rfl, rfl⟩
theorem EncodedLength.aslAbx (w : Word) : EncodedLength.Statement (.aslAbx w) := ⟨rfl, rfl⟩
theorem EncodedLength.lsrZp (z : Byte) : EncodedLength.Statement (.lsrZp z) := ⟨rfl, rfl⟩
theorem EncodedLength.lsrAcc : EncodedLength.Statement (.lsrAcc) := ⟨rfl, rfl⟩
theorem EncodedLength.lsrAbs (w : Word) : EncodedLength.Statement (.lsrAbs w) := ⟨rfl, rfl⟩
theorem EncodedLength.lsrZpx (z : Byte) : EncodedLength.Statement (.lsrZpx z) := ⟨rfl, rfl⟩
theorem EncodedLength.lsrAbx (w : Word) : EncodedLength.Statement (.lsrAbx w) := ⟨rfl, rfl⟩
theorem EncodedLength.rolZp (z : Byte) : EncodedLength.Statement (.rolZp z) := ⟨rfl, rfl⟩
theorem EncodedLength.rolAcc : EncodedLength.Statement (.rolAcc) := ⟨rfl, rfl⟩
theorem EncodedLength.rolAbs (w : Word) : EncodedLength.Statement (.rolAbs w) := ⟨rfl, rfl⟩
theorem EncodedLength.rolZpx (z : Byte) : EncodedLength.Statement (.rolZpx z) := ⟨rfl, rfl⟩
theorem EncodedLength.rolAbx (w : Word) : EncodedLength.Statement (.rolAbx w) := ⟨rfl, rfl⟩
theorem EncodedLength.rorZp (z : Byte) : EncodedLength.Statement (.rorZp z) := ⟨rfl, rfl⟩
theorem EncodedLength.rorAcc : EncodedLength.Statement (.rorAcc) := ⟨rfl, rfl⟩
theorem EncodedLength.rorAbs (w : Word) : EncodedLength.Statement (.rorAbs w) := ⟨rfl, rfl⟩
theorem EncodedLength.rorZpx (z : Byte) : EncodedLength.Statement (.rorZpx z) := ⟨rfl, rfl⟩
theorem EncodedLength.rorAbx (w : Word) : EncodedLength.Statement (.rorAbx w) := ⟨rfl, rfl⟩
theorem EncodedLength.oraIzx (z : Byte) : EncodedLength.Statement (.oraIzx z) := ⟨rfl, rfl⟩
theorem EncodedLength.oraZp (z : Byte) : EncodedLength.Statement (.oraZp z) := ⟨rfl, rfl⟩
theorem EncodedLength.oraImm (v : Byte) : EncodedLength.Statement (.oraImm v) := ⟨rfl, rfl⟩
theorem EncodedLength.oraAbs (w : Word) : EncodedLength.Statement (.oraAbs w) := ⟨rfl, rfl⟩
theorem EncodedLength.oraIzy (z : Byte) : EncodedLength.Statement (.oraIzy z) := ⟨rfl, rfl⟩
theorem EncodedLength.oraZpx (z : Byte) : EncodedLength.Statement (.oraZpx z) := ⟨rfl, rfl⟩
theorem EncodedLength.oraAby (w : Word) : EncodedLength.Statement (.oraAby w) := ⟨rfl, rfl⟩
theorem EncodedLength.oraAbx (w : Word) : EncodedLength.Statement (.oraAbx w) := ⟨rfl, rfl⟩
theorem EncodedLength.andIzx (z : Byte) : EncodedLength.Statement (.andIzx z) := ⟨rfl, rfl⟩
theorem EncodedLength.andZp (z : Byte) : EncodedLength.Statement (.andZp z) := ⟨rfl, rfl⟩
theorem EncodedLength.andImm (v : Byte) : EncodedLength.Statement (.andImm v) := ⟨rfl, rfl⟩
theorem EncodedLength.andAbs (w : Word) : EncodedLength.Statement (.andAbs w) := ⟨rfl, rfl⟩
theorem EncodedLength.andIzy (z : Byte) : EncodedLength.Statement (.andIzy z) := ⟨rfl, rfl⟩
theorem EncodedLength.andZpx (z : Byte) : EncodedLength.Statement (.andZpx z) := ⟨rfl, rfl⟩
theorem EncodedLength.andAby (w : Word) : EncodedLength.Statement (.andAby w) := ⟨rfl, rfl⟩
theorem EncodedLength.andAbx (w : Word) : EncodedLength.Statement (.andAbx w) := ⟨rfl, rfl⟩
theorem EncodedLength.eorIzx (z : Byte) : EncodedLength.Statement (.eorIzx z) := ⟨rfl, rfl⟩
theorem EncodedLength.eorZp (z : Byte) : EncodedLength.Statement (.eorZp z) := ⟨rfl, rfl⟩
theorem EncodedLength.eorImm (v : Byte) : EncodedLength.Statement (.eorImm v) := ⟨rfl, rfl⟩
theorem EncodedLength.eorAbs (w : Word) : EncodedLength.Statement (.eorAbs w) := ⟨rfl, rfl⟩
theorem EncodedLength.eorIzy (z : Byte) : EncodedLength.Statement (.eorIzy z) := ⟨rfl, rfl⟩
theorem EncodedLength.eorZpx (z : Byte) : EncodedLength.Statement (.eorZpx z) := ⟨rfl, rfl⟩
theorem EncodedLength.eorAby (w : Word) : EncodedLength.Statement (.eorAby w) := ⟨rfl, rfl⟩
theorem EncodedLength.eorAbx (w : Word) : EncodedLength.Statement (.eorAbx w) := ⟨rfl, rfl⟩
theorem EncodedLength.bitZp (z : Byte) : EncodedLength.Statement (.bitZp z) := ⟨rfl, rfl⟩
theorem EncodedLength.bitAbs (w : Word) : EncodedLength.Statement (.bitAbs w) := ⟨rfl, rfl⟩
theorem EncodedLength.cmpIzx (z : Byte) : EncodedLength.Statement (.cmpIzx z) := ⟨rfl, rfl⟩
theorem EncodedLength.cmpZp (z : Byte) : EncodedLength.Statement (.cmpZp z) := ⟨rfl, rfl⟩
theorem EncodedLength.cmpImm (v : Byte) : EncodedLength.Statement (.cmpImm v) := ⟨rfl, rfl⟩
theorem EncodedLength.cmpAbs (w : Word) : EncodedLength.Statement (.cmpAbs w) := ⟨rfl, rfl⟩
theorem EncodedLength.cmpIzy (z : Byte) : EncodedLength.Statement (.cmpIzy z) := ⟨rfl, rfl⟩
theorem EncodedLength.cmpZpx (z : Byte) : EncodedLength.Statement (.cmpZpx z) := ⟨rfl, rfl⟩
theorem EncodedLength.cmpAby (w : Word) : EncodedLength.Statement (.cmpAby w) := ⟨rfl, rfl⟩
theorem EncodedLength.cmpAbx (w : Word) : EncodedLength.Statement (.cmpAbx w) := ⟨rfl, rfl⟩
theorem EncodedLength.cpxImm (v : Byte) : EncodedLength.Statement (.cpxImm v) := ⟨rfl, rfl⟩
theorem EncodedLength.cpxZp (z : Byte) : EncodedLength.Statement (.cpxZp z) := ⟨rfl, rfl⟩
theorem EncodedLength.cpxAbs (w : Word) : EncodedLength.Statement (.cpxAbs w) := ⟨rfl, rfl⟩
theorem EncodedLength.cpyImm (v : Byte) : EncodedLength.Statement (.cpyImm v) := ⟨rfl, rfl⟩
theorem EncodedLength.cpyZp (z : Byte) : EncodedLength.Statement (.cpyZp z) := ⟨rfl, rfl⟩
theorem EncodedLength.cpyAbs (w : Word) : EncodedLength.Statement (.cpyAbs w) := ⟨rfl, rfl⟩
theorem EncodedLength.jmpAbs (w : Word) : EncodedLength.Statement (.jmpAbs w) := ⟨rfl, rfl⟩
theorem EncodedLength.jmpInd (p : Word) : EncodedLength.Statement (.jmpInd p) := ⟨rfl, rfl⟩
theorem EncodedLength.jsr (w : Word) : EncodedLength.Statement (.jsr w) := ⟨rfl, rfl⟩
theorem EncodedLength.rts : EncodedLength.Statement (.rts) := ⟨rfl, rfl⟩
theorem EncodedLength.rti : EncodedLength.Statement (.rti) := ⟨rfl, rfl⟩
theorem EncodedLength.nop : EncodedLength.Statement (.nop) := ⟨rfl, rfl⟩

theorem OpcodeRow.ldaIzx (z : Byte) : OpcodeRow.Statement (.ldaIzx z) := ⟨rfl, rfl⟩
theorem OpcodeRow.ldaZp (z : Byte) : OpcodeRow.Statement (.ldaZp z) := ⟨rfl, rfl⟩
theorem OpcodeRow.ldaImm (v : Byte) : OpcodeRow.Statement (.ldaImm v) := ⟨rfl, rfl⟩
theorem OpcodeRow.ldaAbs (w : Word) : OpcodeRow.Statement (.ldaAbs w) := ⟨rfl, rfl⟩
theorem OpcodeRow.ldaIzy (z : Byte) : OpcodeRow.Statement (.ldaIzy z) := ⟨rfl, rfl⟩
theorem OpcodeRow.ldaZpx (z : Byte) : OpcodeRow.Statement (.ldaZpx z) := ⟨rfl, rfl⟩
theorem OpcodeRow.ldaAby (w : Word) : OpcodeRow.Statement (.ldaAby w) := ⟨rfl, rfl⟩
theorem OpcodeRow.ldaAbx (w : Word) : OpcodeRow.Statement (.ldaAbx w) := ⟨rfl, rfl⟩
theorem OpcodeRow.ldxImm (v : Byte) : OpcodeRow.Statement (.ldxImm v) := ⟨rfl, rfl⟩
theorem OpcodeRow.ldxZp (z : Byte) : OpcodeRow.Statement (.ldxZp z) := ⟨rfl, rfl⟩
theorem OpcodeRow.ldxAbs (w : Word) : OpcodeRow.Statement (.ldxAbs w) := ⟨rfl, rfl⟩
theorem OpcodeRow.ldxZpy (z : Byte) : OpcodeRow.Statement (.ldxZpy z) := ⟨rfl, rfl⟩
theorem OpcodeRow.ldxAby (w : Word) : OpcodeRow.Statement (.ldxAby w) := ⟨rfl, rfl⟩
theorem OpcodeRow.ldyImm (v : Byte) : OpcodeRow.Statement (.ldyImm v) := ⟨rfl, rfl⟩
theorem OpcodeRow.ldyZp (z : Byte) : OpcodeRow.Statement (.ldyZp z) := ⟨rfl, rfl⟩
theorem OpcodeRow.ldyAbs (w : Word) : OpcodeRow.Statement (.ldyAbs w) := ⟨rfl, rfl⟩
theorem OpcodeRow.ldyZpx (z : Byte) : OpcodeRow.Statement (.ldyZpx z) := ⟨rfl, rfl⟩
theorem OpcodeRow.ldyAbx (w : Word) : OpcodeRow.Statement (.ldyAbx w) := ⟨rfl, rfl⟩
theorem OpcodeRow.staIzx (z : Byte) : OpcodeRow.Statement (.staIzx z) := ⟨rfl, rfl⟩
theorem OpcodeRow.staZp (z : Byte) : OpcodeRow.Statement (.staZp z) := ⟨rfl, rfl⟩
theorem OpcodeRow.staAbs (w : Word) : OpcodeRow.Statement (.staAbs w) := ⟨rfl, rfl⟩
theorem OpcodeRow.staIzy (z : Byte) : OpcodeRow.Statement (.staIzy z) := ⟨rfl, rfl⟩
theorem OpcodeRow.staZpx (z : Byte) : OpcodeRow.Statement (.staZpx z) := ⟨rfl, rfl⟩
theorem OpcodeRow.staAby (w : Word) : OpcodeRow.Statement (.staAby w) := ⟨rfl, rfl⟩
theorem OpcodeRow.staAbx (w : Word) : OpcodeRow.Statement (.staAbx w) := ⟨rfl, rfl⟩
theorem OpcodeRow.stxZp (z : Byte) : OpcodeRow.Statement (.stxZp z) := ⟨rfl, rfl⟩
theorem OpcodeRow.stxAbs (w : Word) : OpcodeRow.Statement (.stxAbs w) := ⟨rfl, rfl⟩
theorem OpcodeRow.stxZpy (z : Byte) : OpcodeRow.Statement (.stxZpy z) := ⟨rfl, rfl⟩
theorem OpcodeRow.styZp (z : Byte) : OpcodeRow.Statement (.styZp z) := ⟨rfl, rfl⟩
theorem OpcodeRow.styAbs (w : Word) : OpcodeRow.Statement (.styAbs w) := ⟨rfl, rfl⟩
theorem OpcodeRow.styZpx (z : Byte) : OpcodeRow.Statement (.styZpx z) := ⟨rfl, rfl⟩
theorem OpcodeRow.incZp (z : Byte) : OpcodeRow.Statement (.incZp z) := ⟨rfl, rfl⟩
theorem OpcodeRow.incAbs (w : Word) : OpcodeRow.Statement (.incAbs w) := ⟨rfl, rfl⟩
theorem OpcodeRow.incZpx (z : Byte) : OpcodeRow.Statement (.incZpx z) := ⟨rfl, rfl⟩
theorem OpcodeRow.incAbx (w : Word) : OpcodeRow.Statement (.incAbx w) := ⟨rfl, rfl⟩
theorem OpcodeRow.decZp (z : Byte) : OpcodeRow.Statement (.decZp z) := ⟨rfl, rfl⟩
theorem OpcodeRow.decAbs (w : Word) : OpcodeRow.Statement (.decAbs w) := ⟨rfl, rfl⟩
theorem OpcodeRow.decZpx (z : Byte) : OpcodeRow.Statement (.decZpx z) := ⟨rfl, rfl⟩
theorem OpcodeRow.decAbx (w : Word) : OpcodeRow.Statement (.decAbx w) := ⟨rfl, rfl⟩
theorem OpcodeRow.inx : OpcodeRow.Statement (.inx) := ⟨rfl, rfl⟩
theorem OpcodeRow.iny : OpcodeRow.Statement (.iny) := ⟨rfl, rfl⟩
theorem OpcodeRow.dex : OpcodeRow.Statement (.dex) := ⟨rfl, rfl⟩
theorem OpcodeRow.dey : OpcodeRow.Statement (.dey) := ⟨rfl, rfl⟩
theorem OpcodeRow.tax : OpcodeRow.Statement (.tax) := ⟨rfl, rfl⟩
theorem OpcodeRow.tay : OpcodeRow.Statement (.tay) := ⟨rfl, rfl⟩
theorem OpcodeRow.txa : OpcodeRow.Statement (.txa) := ⟨rfl, rfl⟩
theorem OpcodeRow.tya : OpcodeRow.Statement (.tya) := ⟨rfl, rfl⟩
theorem OpcodeRow.tsx : OpcodeRow.Statement (.tsx) := ⟨rfl, rfl⟩
theorem OpcodeRow.txs : OpcodeRow.Statement (.txs) := ⟨rfl, rfl⟩
theorem OpcodeRow.clc : OpcodeRow.Statement (.clc) := ⟨rfl, rfl⟩
theorem OpcodeRow.sec : OpcodeRow.Statement (.sec) := ⟨rfl, rfl⟩
theorem OpcodeRow.cli : OpcodeRow.Statement (.cli) := ⟨rfl, rfl⟩
theorem OpcodeRow.sei : OpcodeRow.Statement (.sei) := ⟨rfl, rfl⟩
theorem OpcodeRow.cld : OpcodeRow.Statement (.cld) := ⟨rfl, rfl⟩
theorem OpcodeRow.sed : OpcodeRow.Statement (.sed) := ⟨rfl, rfl⟩
theorem OpcodeRow.clv : OpcodeRow.Statement (.clv) := ⟨rfl, rfl⟩
theorem OpcodeRow.pha : OpcodeRow.Statement (.pha) := ⟨rfl, rfl⟩
theorem OpcodeRow.php : OpcodeRow.Statement (.php) := ⟨rfl, rfl⟩
theorem OpcodeRow.pla : OpcodeRow.Statement (.pla) := ⟨rfl, rfl⟩
theorem OpcodeRow.plp : OpcodeRow.Statement (.plp) := ⟨rfl, rfl⟩
theorem OpcodeRow.bpl (d : Byte) : OpcodeRow.Statement (.bpl d) := ⟨rfl, rfl⟩
theorem OpcodeRow.bmi (d : Byte) : OpcodeRow.Statement (.bmi d) := ⟨rfl, rfl⟩
theorem OpcodeRow.bvc (d : Byte) : OpcodeRow.Statement (.bvc d) := ⟨rfl, rfl⟩
theorem OpcodeRow.bvs (d : Byte) : OpcodeRow.Statement (.bvs d) := ⟨rfl, rfl⟩
theorem OpcodeRow.bcc (d : Byte) : OpcodeRow.Statement (.bcc d) := ⟨rfl, rfl⟩
theorem OpcodeRow.bcs (d : Byte) : OpcodeRow.Statement (.bcs d) := ⟨rfl, rfl⟩
theorem OpcodeRow.bne (d : Byte) : OpcodeRow.Statement (.bne d) := ⟨rfl, rfl⟩
theorem OpcodeRow.beq (d : Byte) : OpcodeRow.Statement (.beq d) := ⟨rfl, rfl⟩
theorem OpcodeRow.brk : OpcodeRow.Statement (.brk) := ⟨rfl, rfl⟩
theorem OpcodeRow.adcIzx (z : Byte) : OpcodeRow.Statement (.adcIzx z) := ⟨rfl, rfl⟩
theorem OpcodeRow.adcZp (z : Byte) : OpcodeRow.Statement (.adcZp z) := ⟨rfl, rfl⟩
theorem OpcodeRow.adcImm (v : Byte) : OpcodeRow.Statement (.adcImm v) := ⟨rfl, rfl⟩
theorem OpcodeRow.adcAbs (w : Word) : OpcodeRow.Statement (.adcAbs w) := ⟨rfl, rfl⟩
theorem OpcodeRow.adcIzy (z : Byte) : OpcodeRow.Statement (.adcIzy z) := ⟨rfl, rfl⟩
theorem OpcodeRow.adcZpx (z : Byte) : OpcodeRow.Statement (.adcZpx z) := ⟨rfl, rfl⟩
theorem OpcodeRow.adcAby (w : Word) : OpcodeRow.Statement (.adcAby w) := ⟨rfl, rfl⟩
theorem OpcodeRow.adcAbx (w : Word) : OpcodeRow.Statement (.adcAbx w) := ⟨rfl, rfl⟩
theorem OpcodeRow.sbcIzx (z : Byte) : OpcodeRow.Statement (.sbcIzx z) := ⟨rfl, rfl⟩
theorem OpcodeRow.sbcZp (z : Byte) : OpcodeRow.Statement (.sbcZp z) := ⟨rfl, rfl⟩
theorem OpcodeRow.sbcImm (v : Byte) : OpcodeRow.Statement (.sbcImm v) := ⟨rfl, rfl⟩
theorem OpcodeRow.sbcAbs (w : Word) : OpcodeRow.Statement (.sbcAbs w) := ⟨rfl, rfl⟩
theorem OpcodeRow.sbcIzy (z : Byte) : OpcodeRow.Statement (.sbcIzy z) := ⟨rfl, rfl⟩
theorem OpcodeRow.sbcZpx (z : Byte) : OpcodeRow.Statement (.sbcZpx z) := ⟨rfl, rfl⟩
theorem OpcodeRow.sbcAby (w : Word) : OpcodeRow.Statement (.sbcAby w) := ⟨rfl, rfl⟩
theorem OpcodeRow.sbcAbx (w : Word) : OpcodeRow.Statement (.sbcAbx w) := ⟨rfl, rfl⟩
theorem OpcodeRow.aslZp (z : Byte) : OpcodeRow.Statement (.aslZp z) := ⟨rfl, rfl⟩
theorem OpcodeRow.aslAcc : OpcodeRow.Statement (.aslAcc) := ⟨rfl, rfl⟩
theorem OpcodeRow.aslAbs (w : Word) : OpcodeRow.Statement (.aslAbs w) := ⟨rfl, rfl⟩
theorem OpcodeRow.aslZpx (z : Byte) : OpcodeRow.Statement (.aslZpx z) := ⟨rfl, rfl⟩
theorem OpcodeRow.aslAbx (w : Word) : OpcodeRow.Statement (.aslAbx w) := ⟨rfl, rfl⟩
theorem OpcodeRow.lsrZp (z : Byte) : OpcodeRow.Statement (.lsrZp z) := ⟨rfl, rfl⟩
theorem OpcodeRow.lsrAcc : OpcodeRow.Statement (.lsrAcc) := ⟨rfl, rfl⟩
theorem OpcodeRow.lsrAbs (w : Word) : OpcodeRow.Statement (.lsrAbs w) := ⟨rfl, rfl⟩
theorem OpcodeRow.lsrZpx (z : Byte) : OpcodeRow.Statement (.lsrZpx z) := ⟨rfl, rfl⟩
theorem OpcodeRow.lsrAbx (w : Word) : OpcodeRow.Statement (.lsrAbx w) := ⟨rfl, rfl⟩
theorem OpcodeRow.rolZp (z : Byte) : OpcodeRow.Statement (.rolZp z) := ⟨rfl, rfl⟩
theorem OpcodeRow.rolAcc : OpcodeRow.Statement (.rolAcc) := ⟨rfl, rfl⟩
theorem OpcodeRow.rolAbs (w : Word) : OpcodeRow.Statement (.rolAbs w) := ⟨rfl, rfl⟩
theorem OpcodeRow.rolZpx (z : Byte) : OpcodeRow.Statement (.rolZpx z) := ⟨rfl, rfl⟩
theorem OpcodeRow.rolAbx (w : Word) : OpcodeRow.Statement (.rolAbx w) := ⟨rfl, rfl⟩
theorem OpcodeRow.rorZp (z : Byte) : OpcodeRow.Statement (.rorZp z) := ⟨rfl, rfl⟩
theorem OpcodeRow.rorAcc : OpcodeRow.Statement (.rorAcc) := ⟨rfl, rfl⟩
theorem OpcodeRow.rorAbs (w : Word) : OpcodeRow.Statement (.rorAbs w) := ⟨rfl, rfl⟩
theorem OpcodeRow.rorZpx (z : Byte) : OpcodeRow.Statement (.rorZpx z) := ⟨rfl, rfl⟩
theorem OpcodeRow.rorAbx (w : Word) : OpcodeRow.Statement (.rorAbx w) := ⟨rfl, rfl⟩
theorem OpcodeRow.oraIzx (z : Byte) : OpcodeRow.Statement (.oraIzx z) := ⟨rfl, rfl⟩
theorem OpcodeRow.oraZp (z : Byte) : OpcodeRow.Statement (.oraZp z) := ⟨rfl, rfl⟩
theorem OpcodeRow.oraImm (v : Byte) : OpcodeRow.Statement (.oraImm v) := ⟨rfl, rfl⟩
theorem OpcodeRow.oraAbs (w : Word) : OpcodeRow.Statement (.oraAbs w) := ⟨rfl, rfl⟩
theorem OpcodeRow.oraIzy (z : Byte) : OpcodeRow.Statement (.oraIzy z) := ⟨rfl, rfl⟩
theorem OpcodeRow.oraZpx (z : Byte) : OpcodeRow.Statement (.oraZpx z) := ⟨rfl, rfl⟩
theorem OpcodeRow.oraAby (w : Word) : OpcodeRow.Statement (.oraAby w) := ⟨rfl, rfl⟩
theorem OpcodeRow.oraAbx (w : Word) : OpcodeRow.Statement (.oraAbx w) := ⟨rfl, rfl⟩
theorem OpcodeRow.andIzx (z : Byte) : OpcodeRow.Statement (.andIzx z) := ⟨rfl, rfl⟩
theorem OpcodeRow.andZp (z : Byte) : OpcodeRow.Statement (.andZp z) := ⟨rfl, rfl⟩
theorem OpcodeRow.andImm (v : Byte) : OpcodeRow.Statement (.andImm v) := ⟨rfl, rfl⟩
theorem OpcodeRow.andAbs (w : Word) : OpcodeRow.Statement (.andAbs w) := ⟨rfl, rfl⟩
theorem OpcodeRow.andIzy (z : Byte) : OpcodeRow.Statement (.andIzy z) := ⟨rfl, rfl⟩
theorem OpcodeRow.andZpx (z : Byte) : OpcodeRow.Statement (.andZpx z) := ⟨rfl, rfl⟩
theorem OpcodeRow.andAby (w : Word) : OpcodeRow.Statement (.andAby w) := ⟨rfl, rfl⟩
theorem OpcodeRow.andAbx (w : Word) : OpcodeRow.Statement (.andAbx w) := ⟨rfl, rfl⟩
theorem OpcodeRow.eorIzx (z : Byte) : OpcodeRow.Statement (.eorIzx z) := ⟨rfl, rfl⟩
theorem OpcodeRow.eorZp (z : Byte) : OpcodeRow.Statement (.eorZp z) := ⟨rfl, rfl⟩
theorem OpcodeRow.eorImm (v : Byte) : OpcodeRow.Statement (.eorImm v) := ⟨rfl, rfl⟩
theorem OpcodeRow.eorAbs (w : Word) : OpcodeRow.Statement (.eorAbs w) := ⟨rfl, rfl⟩
theorem OpcodeRow.eorIzy (z : Byte) : OpcodeRow.Statement (.eorIzy z) := ⟨rfl, rfl⟩
theorem OpcodeRow.eorZpx (z : Byte) : OpcodeRow.Statement (.eorZpx z) := ⟨rfl, rfl⟩
theorem OpcodeRow.eorAby (w : Word) : OpcodeRow.Statement (.eorAby w) := ⟨rfl, rfl⟩
theorem OpcodeRow.eorAbx (w : Word) : OpcodeRow.Statement (.eorAbx w) := ⟨rfl, rfl⟩
theorem OpcodeRow.bitZp (z : Byte) : OpcodeRow.Statement (.bitZp z) := ⟨rfl, rfl⟩
theorem OpcodeRow.bitAbs (w : Word) : OpcodeRow.Statement (.bitAbs w) := ⟨rfl, rfl⟩
theorem OpcodeRow.cmpIzx (z : Byte) : OpcodeRow.Statement (.cmpIzx z) := ⟨rfl, rfl⟩
theorem OpcodeRow.cmpZp (z : Byte) : OpcodeRow.Statement (.cmpZp z) := ⟨rfl, rfl⟩
theorem OpcodeRow.cmpImm (v : Byte) : OpcodeRow.Statement (.cmpImm v) := ⟨rfl, rfl⟩
theorem OpcodeRow.cmpAbs (w : Word) : OpcodeRow.Statement (.cmpAbs w) := ⟨rfl, rfl⟩
theorem OpcodeRow.cmpIzy (z : Byte) : OpcodeRow.Statement (.cmpIzy z) := ⟨rfl, rfl⟩
theorem OpcodeRow.cmpZpx (z : Byte) : OpcodeRow.Statement (.cmpZpx z) := ⟨rfl, rfl⟩
theorem OpcodeRow.cmpAby (w : Word) : OpcodeRow.Statement (.cmpAby w) := ⟨rfl, rfl⟩
theorem OpcodeRow.cmpAbx (w : Word) : OpcodeRow.Statement (.cmpAbx w) := ⟨rfl, rfl⟩
theorem OpcodeRow.cpxImm (v : Byte) : OpcodeRow.Statement (.cpxImm v) := ⟨rfl, rfl⟩
theorem OpcodeRow.cpxZp (z : Byte) : OpcodeRow.Statement (.cpxZp z) := ⟨rfl, rfl⟩
theorem OpcodeRow.cpxAbs (w : Word) : OpcodeRow.Statement (.cpxAbs w) := ⟨rfl, rfl⟩
theorem OpcodeRow.cpyImm (v : Byte) : OpcodeRow.Statement (.cpyImm v) := ⟨rfl, rfl⟩
theorem OpcodeRow.cpyZp (z : Byte) : OpcodeRow.Statement (.cpyZp z) := ⟨rfl, rfl⟩
theorem OpcodeRow.cpyAbs (w : Word) : OpcodeRow.Statement (.cpyAbs w) := ⟨rfl, rfl⟩
theorem OpcodeRow.jmpAbs (w : Word) : OpcodeRow.Statement (.jmpAbs w) := ⟨rfl, rfl⟩
theorem OpcodeRow.jmpInd (p : Word) : OpcodeRow.Statement (.jmpInd p) := ⟨rfl, rfl⟩
theorem OpcodeRow.jsr (w : Word) : OpcodeRow.Statement (.jsr w) := ⟨rfl, rfl⟩
theorem OpcodeRow.rts : OpcodeRow.Statement (.rts) := ⟨rfl, rfl⟩
theorem OpcodeRow.rti : OpcodeRow.Statement (.rti) := ⟨rfl, rfl⟩
theorem OpcodeRow.nop : OpcodeRow.Statement (.nop) := ⟨rfl, rfl⟩

end Sys2Proof.Laws
end

