-- ==== Sys2Proof/Tests/Slice0.lean ====
section
/-! SUPPORT. Tests of the model against the spec: the decoder against the words of opcode_table.json, one step against the
vectors of 95_test_vectors.md, the host's calls, and for every statement with hypotheses a state that meets them. -/

namespace Sys2Proof.Tests

open Sys2Proof.Machine

/-! ### Well-formedness and decoding

Each word is written out from its row's `encoding` in opcode_table.json; the operand bytes are 0x34 and 0x12. -/

theorem test_decode_brk : decode true [0b00000000] = .ok (.brk, []) := rfl

theorem test_decode_ora :
    decode true [0b00000001, 0x34] = .ok (.oraIzx 0x34, []) ∧
    decode true [0b00000101, 0x34] = .ok (.oraZp 0x34, []) ∧
    decode true [0b00001001, 0x34] = .ok (.oraImm 0x34, []) ∧
    decode true [0b00001101, 0x34, 0x12] = .ok (.oraAbs 0x1234, []) ∧
    decode true [0b00010001, 0x34] = .ok (.oraIzy 0x34, []) ∧
    decode true [0b00010101, 0x34] = .ok (.oraZpx 0x34, []) ∧
    decode true [0b00011001, 0x34, 0x12] = .ok (.oraAby 0x1234, []) ∧
    decode true [0b00011101, 0x34, 0x12] = .ok (.oraAbx 0x1234, []) :=
  ⟨rfl, rfl, rfl, rfl, rfl, rfl, rfl, rfl⟩

theorem test_decode_asl :
    decode true [0b00000110, 0x34] = .ok (.aslZp 0x34, []) ∧
    decode true [0b00001010] = .ok (.aslAcc, []) ∧
    decode true [0b00001110, 0x34, 0x12] = .ok (.aslAbs 0x1234, []) ∧
    decode true [0b00010110, 0x34] = .ok (.aslZpx 0x34, []) ∧
    decode true [0b00011110, 0x34, 0x12] = .ok (.aslAbx 0x1234, []) :=
  ⟨rfl, rfl, rfl, rfl, rfl⟩

theorem test_decode_php : decode true [0b00001000] = .ok (.php, []) := rfl

theorem test_decode_bpl : decode true [0b00010000, 0x34] = .ok (.bpl 0x34, []) := rfl

theorem test_decode_clc : decode true [0b00011000] = .ok (.clc, []) := rfl

theorem test_decode_jsr : decode true [0b00100000, 0x34, 0x12] = .ok (.jsr 0x1234, []) := rfl

theorem test_decode_and :
    decode true [0b00100001, 0x34] = .ok (.andIzx 0x34, []) ∧
    decode true [0b00100101, 0x34] = .ok (.andZp 0x34, []) ∧
    decode true [0b00101001, 0x34] = .ok (.andImm 0x34, []) ∧
    decode true [0b00101101, 0x34, 0x12] = .ok (.andAbs 0x1234, []) ∧
    decode true [0b00110001, 0x34] = .ok (.andIzy 0x34, []) ∧
    decode true [0b00110101, 0x34] = .ok (.andZpx 0x34, []) ∧
    decode true [0b00111001, 0x34, 0x12] = .ok (.andAby 0x1234, []) ∧
    decode true [0b00111101, 0x34, 0x12] = .ok (.andAbx 0x1234, []) :=
  ⟨rfl, rfl, rfl, rfl, rfl, rfl, rfl, rfl⟩

theorem test_decode_bit :
    decode true [0b00100100, 0x34] = .ok (.bitZp 0x34, []) ∧
    decode true [0b00101100, 0x34, 0x12] = .ok (.bitAbs 0x1234, []) :=
  ⟨rfl, rfl⟩

theorem test_decode_rol :
    decode true [0b00100110, 0x34] = .ok (.rolZp 0x34, []) ∧
    decode true [0b00101010] = .ok (.rolAcc, []) ∧
    decode true [0b00101110, 0x34, 0x12] = .ok (.rolAbs 0x1234, []) ∧
    decode true [0b00110110, 0x34] = .ok (.rolZpx 0x34, []) ∧
    decode true [0b00111110, 0x34, 0x12] = .ok (.rolAbx 0x1234, []) :=
  ⟨rfl, rfl, rfl, rfl, rfl⟩

theorem test_decode_plp : decode true [0b00101000] = .ok (.plp, []) := rfl

theorem test_decode_bmi : decode true [0b00110000, 0x34] = .ok (.bmi 0x34, []) := rfl

theorem test_decode_sec : decode true [0b00111000] = .ok (.sec, []) := rfl

theorem test_decode_rti : decode true [0b01000000] = .ok (.rti, []) := rfl

theorem test_decode_eor :
    decode true [0b01000001, 0x34] = .ok (.eorIzx 0x34, []) ∧
    decode true [0b01000101, 0x34] = .ok (.eorZp 0x34, []) ∧
    decode true [0b01001001, 0x34] = .ok (.eorImm 0x34, []) ∧
    decode true [0b01001101, 0x34, 0x12] = .ok (.eorAbs 0x1234, []) ∧
    decode true [0b01010001, 0x34] = .ok (.eorIzy 0x34, []) ∧
    decode true [0b01010101, 0x34] = .ok (.eorZpx 0x34, []) ∧
    decode true [0b01011001, 0x34, 0x12] = .ok (.eorAby 0x1234, []) ∧
    decode true [0b01011101, 0x34, 0x12] = .ok (.eorAbx 0x1234, []) :=
  ⟨rfl, rfl, rfl, rfl, rfl, rfl, rfl, rfl⟩

theorem test_decode_lsr :
    decode true [0b01000110, 0x34] = .ok (.lsrZp 0x34, []) ∧
    decode true [0b01001010] = .ok (.lsrAcc, []) ∧
    decode true [0b01001110, 0x34, 0x12] = .ok (.lsrAbs 0x1234, []) ∧
    decode true [0b01010110, 0x34] = .ok (.lsrZpx 0x34, []) ∧
    decode true [0b01011110, 0x34, 0x12] = .ok (.lsrAbx 0x1234, []) :=
  ⟨rfl, rfl, rfl, rfl, rfl⟩

theorem test_decode_pha : decode true [0b01001000] = .ok (.pha, []) := rfl

theorem test_decode_jmp :
    decode true [0b01001100, 0x34, 0x12] = .ok (.jmpAbs 0x1234, []) ∧
    decode true [0b01101100, 0x34, 0x12] = .ok (.jmpInd 0x1234, []) :=
  ⟨rfl, rfl⟩

theorem test_decode_bvc : decode true [0b01010000, 0x34] = .ok (.bvc 0x34, []) := rfl

theorem test_decode_cli : decode true [0b01011000] = .ok (.cli, []) := rfl

theorem test_decode_rts : decode true [0b01100000] = .ok (.rts, []) := rfl

theorem test_decode_adc :
    decode true [0b01100001, 0x34] = .ok (.adcIzx 0x34, []) ∧
    decode true [0b01100101, 0x34] = .ok (.adcZp 0x34, []) ∧
    decode true [0b01101001, 0x34] = .ok (.adcImm 0x34, []) ∧
    decode true [0b01101101, 0x34, 0x12] = .ok (.adcAbs 0x1234, []) ∧
    decode true [0b01110001, 0x34] = .ok (.adcIzy 0x34, []) ∧
    decode true [0b01110101, 0x34] = .ok (.adcZpx 0x34, []) ∧
    decode true [0b01111001, 0x34, 0x12] = .ok (.adcAby 0x1234, []) ∧
    decode true [0b01111101, 0x34, 0x12] = .ok (.adcAbx 0x1234, []) :=
  ⟨rfl, rfl, rfl, rfl, rfl, rfl, rfl, rfl⟩

theorem test_decode_ror :
    decode true [0b01100110, 0x34] = .ok (.rorZp 0x34, []) ∧
    decode true [0b01101010] = .ok (.rorAcc, []) ∧
    decode true [0b01101110, 0x34, 0x12] = .ok (.rorAbs 0x1234, []) ∧
    decode true [0b01110110, 0x34] = .ok (.rorZpx 0x34, []) ∧
    decode true [0b01111110, 0x34, 0x12] = .ok (.rorAbx 0x1234, []) :=
  ⟨rfl, rfl, rfl, rfl, rfl⟩

theorem test_decode_pla : decode true [0b01101000] = .ok (.pla, []) := rfl

theorem test_decode_bvs : decode true [0b01110000, 0x34] = .ok (.bvs 0x34, []) := rfl

theorem test_decode_sei : decode true [0b01111000] = .ok (.sei, []) := rfl

theorem test_decode_sta :
    decode true [0b10000001, 0x34] = .ok (.staIzx 0x34, []) ∧
    decode true [0b10000101, 0x34] = .ok (.staZp 0x34, []) ∧
    decode true [0b10001101, 0x34, 0x12] = .ok (.staAbs 0x1234, []) ∧
    decode true [0b10010001, 0x34] = .ok (.staIzy 0x34, []) ∧
    decode true [0b10010101, 0x34] = .ok (.staZpx 0x34, []) ∧
    decode true [0b10011001, 0x34, 0x12] = .ok (.staAby 0x1234, []) ∧
    decode true [0b10011101, 0x34, 0x12] = .ok (.staAbx 0x1234, []) :=
  ⟨rfl, rfl, rfl, rfl, rfl, rfl, rfl⟩

theorem test_decode_sty :
    decode true [0b10000100, 0x34] = .ok (.styZp 0x34, []) ∧
    decode true [0b10001100, 0x34, 0x12] = .ok (.styAbs 0x1234, []) ∧
    decode true [0b10010100, 0x34] = .ok (.styZpx 0x34, []) :=
  ⟨rfl, rfl, rfl⟩

theorem test_decode_stx :
    decode true [0b10000110, 0x34] = .ok (.stxZp 0x34, []) ∧
    decode true [0b10001110, 0x34, 0x12] = .ok (.stxAbs 0x1234, []) ∧
    decode true [0b10010110, 0x34] = .ok (.stxZpy 0x34, []) :=
  ⟨rfl, rfl, rfl⟩

theorem test_decode_dey : decode true [0b10001000] = .ok (.dey, []) := rfl

theorem test_decode_txa : decode true [0b10001010] = .ok (.txa, []) := rfl

theorem test_decode_bcc : decode true [0b10010000, 0x34] = .ok (.bcc 0x34, []) := rfl

theorem test_decode_tya : decode true [0b10011000] = .ok (.tya, []) := rfl

theorem test_decode_txs : decode true [0b10011010] = .ok (.txs, []) := rfl

theorem test_decode_ldy :
    decode true [0b10100000, 0x34] = .ok (.ldyImm 0x34, []) ∧
    decode true [0b10100100, 0x34] = .ok (.ldyZp 0x34, []) ∧
    decode true [0b10101100, 0x34, 0x12] = .ok (.ldyAbs 0x1234, []) ∧
    decode true [0b10110100, 0x34] = .ok (.ldyZpx 0x34, []) ∧
    decode true [0b10111100, 0x34, 0x12] = .ok (.ldyAbx 0x1234, []) :=
  ⟨rfl, rfl, rfl, rfl, rfl⟩

theorem test_decode_lda :
    decode true [0b10100001, 0x34] = .ok (.ldaIzx 0x34, []) ∧
    decode true [0b10100101, 0x34] = .ok (.ldaZp 0x34, []) ∧
    decode true [0b10101001, 0x34] = .ok (.ldaImm 0x34, []) ∧
    decode true [0b10101101, 0x34, 0x12] = .ok (.ldaAbs 0x1234, []) ∧
    decode true [0b10110001, 0x34] = .ok (.ldaIzy 0x34, []) ∧
    decode true [0b10110101, 0x34] = .ok (.ldaZpx 0x34, []) ∧
    decode true [0b10111001, 0x34, 0x12] = .ok (.ldaAby 0x1234, []) ∧
    decode true [0b10111101, 0x34, 0x12] = .ok (.ldaAbx 0x1234, []) :=
  ⟨rfl, rfl, rfl, rfl, rfl, rfl, rfl, rfl⟩

theorem test_decode_ldx :
    decode true [0b10100010, 0x34] = .ok (.ldxImm 0x34, []) ∧
    decode true [0b10100110, 0x34] = .ok (.ldxZp 0x34, []) ∧
    decode true [0b10101110, 0x34, 0x12] = .ok (.ldxAbs 0x1234, []) ∧
    decode true [0b10110110, 0x34] = .ok (.ldxZpy 0x34, []) ∧
    decode true [0b10111110, 0x34, 0x12] = .ok (.ldxAby 0x1234, []) :=
  ⟨rfl, rfl, rfl, rfl, rfl⟩

theorem test_decode_tay : decode true [0b10101000] = .ok (.tay, []) := rfl

theorem test_decode_tax : decode true [0b10101010] = .ok (.tax, []) := rfl

theorem test_decode_bcs : decode true [0b10110000, 0x34] = .ok (.bcs 0x34, []) := rfl

theorem test_decode_clv : decode true [0b10111000] = .ok (.clv, []) := rfl

theorem test_decode_tsx : decode true [0b10111010] = .ok (.tsx, []) := rfl

theorem test_decode_cpy :
    decode true [0b11000000, 0x34] = .ok (.cpyImm 0x34, []) ∧
    decode true [0b11000100, 0x34] = .ok (.cpyZp 0x34, []) ∧
    decode true [0b11001100, 0x34, 0x12] = .ok (.cpyAbs 0x1234, []) :=
  ⟨rfl, rfl, rfl⟩

theorem test_decode_cmp :
    decode true [0b11000001, 0x34] = .ok (.cmpIzx 0x34, []) ∧
    decode true [0b11000101, 0x34] = .ok (.cmpZp 0x34, []) ∧
    decode true [0b11001001, 0x34] = .ok (.cmpImm 0x34, []) ∧
    decode true [0b11001101, 0x34, 0x12] = .ok (.cmpAbs 0x1234, []) ∧
    decode true [0b11010001, 0x34] = .ok (.cmpIzy 0x34, []) ∧
    decode true [0b11010101, 0x34] = .ok (.cmpZpx 0x34, []) ∧
    decode true [0b11011001, 0x34, 0x12] = .ok (.cmpAby 0x1234, []) ∧
    decode true [0b11011101, 0x34, 0x12] = .ok (.cmpAbx 0x1234, []) :=
  ⟨rfl, rfl, rfl, rfl, rfl, rfl, rfl, rfl⟩

theorem test_decode_dec :
    decode true [0b11000110, 0x34] = .ok (.decZp 0x34, []) ∧
    decode true [0b11001110, 0x34, 0x12] = .ok (.decAbs 0x1234, []) ∧
    decode true [0b11010110, 0x34] = .ok (.decZpx 0x34, []) ∧
    decode true [0b11011110, 0x34, 0x12] = .ok (.decAbx 0x1234, []) :=
  ⟨rfl, rfl, rfl, rfl⟩

theorem test_decode_iny : decode true [0b11001000] = .ok (.iny, []) := rfl

theorem test_decode_dex : decode true [0b11001010] = .ok (.dex, []) := rfl

theorem test_decode_bne : decode true [0b11010000, 0x34] = .ok (.bne 0x34, []) := rfl

theorem test_decode_cld : decode true [0b11011000] = .ok (.cld, []) := rfl

theorem test_decode_cpx :
    decode true [0b11100000, 0x34] = .ok (.cpxImm 0x34, []) ∧
    decode true [0b11100100, 0x34] = .ok (.cpxZp 0x34, []) ∧
    decode true [0b11101100, 0x34, 0x12] = .ok (.cpxAbs 0x1234, []) :=
  ⟨rfl, rfl, rfl⟩

theorem test_decode_sbc :
    decode true [0b11100001, 0x34] = .ok (.sbcIzx 0x34, []) ∧
    decode true [0b11100101, 0x34] = .ok (.sbcZp 0x34, []) ∧
    decode true [0b11101001, 0x34] = .ok (.sbcImm 0x34, []) ∧
    decode true [0b11101101, 0x34, 0x12] = .ok (.sbcAbs 0x1234, []) ∧
    decode true [0b11110001, 0x34] = .ok (.sbcIzy 0x34, []) ∧
    decode true [0b11110101, 0x34] = .ok (.sbcZpx 0x34, []) ∧
    decode true [0b11111001, 0x34, 0x12] = .ok (.sbcAby 0x1234, []) ∧
    decode true [0b11111101, 0x34, 0x12] = .ok (.sbcAbx 0x1234, []) :=
  ⟨rfl, rfl, rfl, rfl, rfl, rfl, rfl, rfl⟩

theorem test_decode_inc :
    decode true [0b11100110, 0x34] = .ok (.incZp 0x34, []) ∧
    decode true [0b11101110, 0x34, 0x12] = .ok (.incAbs 0x1234, []) ∧
    decode true [0b11110110, 0x34] = .ok (.incZpx 0x34, []) ∧
    decode true [0b11111110, 0x34, 0x12] = .ok (.incAbx 0x1234, []) :=
  ⟨rfl, rfl, rfl, rfl⟩

theorem test_decode_inx : decode true [0b11101000] = .ok (.inx, []) := rfl

theorem test_decode_nop : decode true [0b11101010] = .ok (.nop, []) := rfl

theorem test_decode_beq : decode true [0b11110000, 0x34] = .ok (.beq 0x34, []) := rfl

theorem test_decode_sed : decode true [0b11111000] = .ok (.sed, []) := rfl

/-- Without `EXT_NMOS` no extension instruction is well formed (R75), and with it every one is. -/
theorem test_wellFormed_refuses_every_extension :
    ([.oraIzx 0x34, .oraZp 0x34, .oraImm 0x34, .oraAbs 0x1234, .oraIzy 0x34, .oraZpx 0x34, .oraAby 0x1234,
      .oraAbx 0x1234, .jsr 0x1234, .andIzx 0x34, .andZp 0x34, .andImm 0x34, .andAbs 0x1234, .andIzy 0x34,
      .andZpx 0x34, .andAby 0x1234, .andAbx 0x1234, .bitZp 0x34, .bitAbs 0x1234, .rti, .eorIzx 0x34, .eorZp 0x34,
      .eorImm 0x34, .eorAbs 0x1234, .eorIzy 0x34, .eorZpx 0x34, .eorAby 0x1234, .eorAbx 0x1234, .jmpAbs 0x1234,
      .jmpInd 0x1234, .rts, .cpyImm 0x34, .cpyZp 0x34, .cpyAbs 0x1234, .cmpIzx 0x34, .cmpZp 0x34, .cmpImm 0x34,
      .cmpAbs 0x1234, .cmpIzy 0x34, .cmpZpx 0x34, .cmpAby 0x1234, .cmpAbx 0x1234, .cpxImm 0x34, .cpxZp 0x34,
      .cpxAbs 0x1234, .nop] : List Instr).all
      (fun i => !i.wellFormed false && i.wellFormed true) = true := by decide

/-- Every core instruction is well formed either way (R74): one of each mnemonic. -/
theorem test_wellFormed_accepts_the_core :
    ([.brk, .aslZp 0x34, .php, .bpl 0x34, .clc, .rolZp 0x34, .plp, .bmi 0x34, .sec, .lsrZp 0x34, .pha, .bvc 0x34,
      .cli, .adcIzx 0x34, .rorZp 0x34, .pla, .bvs 0x34, .sei, .staIzx 0x34, .styZp 0x34, .stxZp 0x34, .dey, .txa,
      .bcc 0x34, .tya, .txs, .ldyImm 0x34, .ldaIzx 0x34, .ldxImm 0x34, .tay, .tax, .bcs 0x34, .clv, .tsx,
      .decZp 0x34, .iny, .dex, .bne 0x34, .cld, .sbcIzx 0x34, .incZp 0x34, .inx, .beq 0x34, .sed] : List Instr).all
      (fun i => i.wellFormed false && i.wellFormed true) = true := by decide

/-- The decoder rejects by name: no byte, an Invalid byte (R76), an extension byte without `EXT_NMOS` (R75), an operand cut off. -/
theorem test_decode_rejects :
    decode true [] = .error .noBytes ∧ decode true [0x02] = .error (.invalidOpcode 0x02) ∧
    decode false [0x4C, 0x00, 0x80] = .error (.invalidOpcode 0x4C) ∧ decode true [0xA9] = .error (.truncated 0xA9) ∧
    decode true [0xAD, 0x34] = .error (.truncated 0xAD) := ⟨rfl, rfl, rfl, rfl, rfl⟩

/-- A table word's first byte is its least significant; the bits above `nbits` are zero. -/
theorem test_decodeTableWord :
    decodeTableWord 24 0x1234AD = some (.ldaAbs 0x1234) ∧ decodeTableWord 8 0x34A9 = some (.ldaImm 0x00) ∧
    decodeTableWord 16 0x34A9 = some (.ldaImm 0x34) ∧ decodeTableWord 8 0x02 = none := ⟨rfl, rfl, rfl, rfl⟩

/-- A table word runs as the first instruction after reset: LDA #, and with the table's extension rows JMP (R75). -/
theorem test_withFetchWord :
    step (State.reset.withFetchWord 16 0x42A9) = exec (.ldaImm 0x42) (State.reset.withFetchWord 16 0x42A9) ∧
    step (State.reset.withFetchWord 24 0x12344C) = exec (.jmpAbs 0x1234) (State.reset.withFetchWord 24 0x12344C) :=
  ⟨rfl, rfl⟩

/-! ### One step

The states and the results are those of 95_test_vectors.md, whole: what a vector does not list is unchanged. -/

/-- The base state of the vectors under some parameters, PC set by the host, the listed bytes poked. -/
def boot (p : Params) (pc : Word) (cells : List (Word × Byte)) : State :=
  cells.foldl (fun s c => s.poke c.1 c.2) { hardReset p 0x0200 with pc := pc }

/-- The default parameters with the extension opcodes. -/
def extParams : Params := { defaultParams with extNmos := true }

/-- One host step goes from `s` to `t` at this cost, and CYC, zero in `s`, grows by it (R313). -/
def goes (s t : State) (cost : Nat) : Bool := decide (hostStep s = ({ t with cyc := cost }, .ok cost))

/-- V-LS-1, V-LS-2, V-LS-3, V-LS-4, V-LS-5, V-LS-6, V-LS-7, V-LS-8. -/
theorem test_step_lda :
    (let s := boot defaultParams 0x0200 [(0x0200, 0xA9), (0x0201, 0x00)]
     goes s { s with flags := 0x02, pc := 0x0202 } 2 = true) ∧
    (let s := boot defaultParams 0x0200 [(0x0200, 0xA9), (0x0201, 0x80)]
     goes s { s with a := 0x80, flags := 0x80, pc := 0x0202 } 2 = true) ∧
    (let s := { boot defaultParams 0x0200
        [(0x2110, 0x5A), (0x0200, 0xBD), (0x0201, 0xF0), (0x0202, 0x20)] with x := 0x20 }
     goes s { s with a := 0x5A, pc := 0x0203 } 5 = true) ∧
    (let s := { boot defaultParams 0x0200
        [(0x2001, 0x5A), (0x0200, 0xBD), (0x0201, 0x00), (0x0202, 0x20)] with x := 0x01 }
     goes s { s with a := 0x5A, pc := 0x0203 } 4 = true) ∧
    (let s := { boot defaultParams 0x0200
        [(0x0024, 0x00), (0x0025, 0x30), (0x3000, 0x99), (0x0200, 0xA1), (0x0201, 0x1F)] with x := 0x05 }
     goes s { s with a := 0x99, flags := 0x80, pc := 0x0202 } 6 = true) ∧
    (let s := { boot defaultParams 0x0200
        [(0x0040, 0xF8), (0x0041, 0x30), (0x3108, 0x01), (0x0200, 0xB1), (0x0201, 0x40)] with y := 0x10 }
     goes s { s with a := 0x01, pc := 0x0202 } 6 = true) ∧
    (let s := boot defaultParams 0x0200
        [(0x00FF, 0x34), (0x0100, 0x12), (0x0000, 0x56), (0x1234, 0xAB), (0x5634, 0xCD), (0x0200, 0xA1), (0x0201, 0xFF)]
     goes s { s with a := 0xAB, flags := 0x80, pc := 0x0202 } 6 = true) ∧
    (let s := boot { defaultParams with zpPtrWrap := true } 0x0200
        [(0x00FF, 0x34), (0x0100, 0x12), (0x0000, 0x56), (0x1234, 0xAB), (0x5634, 0xCD), (0x0200, 0xA1), (0x0201, 0xFF)]
     goes s { s with a := 0xCD, flags := 0x80, pc := 0x0202 } 6 = true) :=
  ⟨by decide, by decide, by decide, by decide, by decide, by decide, by decide, by decide⟩

/-- V-LS-9. -/
theorem test_step_ldx :
    (let s := { boot defaultParams 0x0200 [(0x0005, 0x77), (0x0200, 0xB6), (0x0201, 0xF5)] with y := 0x10 }
     goes s { s with x := 0x77, pc := 0x0202 } 4 = true) := by decide

/-- V-LS-10. -/
theorem test_step_ldy :
    (let s := { boot defaultParams 0x0200
        [(0x1100, 0x80), (0x0200, 0xBC), (0x0201, 0x01), (0x0202, 0x10)] with x := 0xFF }
     goes s { s with y := 0x80, flags := 0x80, pc := 0x0203 } 5 = true) := by decide

/-- V-LS-11, V-LS-12, V-LS-13. -/
theorem test_step_sta :
    (let s := { boot defaultParams 0x0200 [(0x0200, 0x9D), (0x0201, 0xF0), (0x0202, 0x20)] with a := 0x42, x := 0x20 }
     goes s { (s.poke 0x2110 0x42) with pc := 0x0203 } 6 = true) ∧
    (let s := { boot { defaultParams with penaltyOnWrite := false } 0x0200
        [(0x0200, 0x9D), (0x0201, 0xF0), (0x0202, 0x20)] with a := 0x42, x := 0x20 }
     goes s { (s.poke 0x2110 0x42) with pc := 0x0203 } 5 = true) ∧
    (let s := { boot defaultParams 0x0200 [(0x0200, 0x99), (0x0201, 0xFF), (0x0202, 0xFF)] with a := 0x42, y := 0x01 }
     goes s { (s.poke 0x0000 0x42) with pc := 0x0203 } 6 = true) :=
  ⟨by decide, by decide, by decide⟩

/-- V-LS-14. -/
theorem test_step_stx :
    (let s := { boot defaultParams 0x0200 [(0x0200, 0x96), (0x0201, 0x0F)] with x := 0x10, y := 0xF5 }
     goes s { (s.poke 0x0004 0x10) with pc := 0x0202 } 4 = true) := by decide

/-- V-LS-15. -/
theorem test_step_sty :
    (let s := { boot defaultParams 0x0200
        [(0x0200, 0x8C), (0x0201, 0x00), (0x0202, 0x03)] with y := 0x80, flags := 0x00 }
     goes s { (s.poke 0x0300 0x80) with pc := 0x0203 } 4 = true) := by decide

/-- V-ID-1, V-ID-2, V-ID-3. -/
theorem test_step_inc :
    (let s := boot defaultParams 0x0200 [(0x0010, 0xFF), (0x0200, 0xE6), (0x0201, 0x10)]
     goes s { (s.poke 0x0010 0x00) with flags := 0x02, pc := 0x0202 } 5 = true) ∧
    (let s := { boot defaultParams 0x0200
        [(0x3000, 0x7F), (0x0200, 0xFE), (0x0201, 0xFF), (0x0202, 0x2F)] with x := 0x01 }
     goes s { (s.poke 0x3000 0x80) with flags := 0x80, pc := 0x0203 } 8 = true) ∧
    (let s := { boot { defaultParams with penaltyOnWrite := false } 0x0200
        [(0x3000, 0x7F), (0x0200, 0xFE), (0x0201, 0xFF), (0x0202, 0x2F)] with x := 0x01 }
     goes s { (s.poke 0x3000 0x80) with flags := 0x80, pc := 0x0203 } 7 = true) :=
  ⟨by decide, by decide, by decide⟩

/-- V-ID-4, V-ID-5. -/
theorem test_step_dec :
    (let s := boot defaultParams 0x0200 [(0x0010, 0x00), (0x0200, 0xC6), (0x0201, 0x10)]
     goes s { (s.poke 0x0010 0xFF) with flags := 0x80, pc := 0x0202 } 5 = true) ∧
    (let s := { boot defaultParams 0x0200 [(0x0000, 0x01), (0x0200, 0xD6), (0x0201, 0x10)] with x := 0xF0 }
     goes s { (s.poke 0x0000 0x00) with flags := 0x02, pc := 0x0202 } 6 = true) :=
  ⟨by decide, by decide⟩

/-- V-ID-6. -/
theorem test_step_inx :
    (let s := { boot defaultParams 0x0200 [(0x0200, 0xE8)] with x := 0xFF }
     goes s { s with x := 0x00, flags := 0x02, pc := 0x0201 } 2 = true) := by decide

/-- V-ID-7. -/
theorem test_step_iny :
    (let s := { boot defaultParams 0x0200 [(0x0200, 0xC8)] with y := 0x7F }
     goes s { s with y := 0x80, flags := 0x80, pc := 0x0201 } 2 = true) := by decide

/-- V-ID-8. -/
theorem test_step_dex :
    (let s := { boot defaultParams 0x0200 [(0x0200, 0xCA)] with x := 0x00 }
     goes s { s with x := 0xFF, flags := 0x80, pc := 0x0201 } 2 = true) := by decide

/-- V-ID-9. -/
theorem test_step_dey :
    (let s := { boot defaultParams 0x0200 [(0x0200, 0x88)] with y := 0x80 }
     goes s { s with y := 0x7F, pc := 0x0201 } 2 = true) := by decide

/-- V-TR-1. -/
theorem test_step_tax :
    (let s := { boot defaultParams 0x0200 [(0x0200, 0xAA)] with a := 0x00, x := 0x55 }
     goes s { s with x := 0x00, flags := 0x02, pc := 0x0201 } 2 = true) := by decide

/-- V-TR-2. -/
theorem test_step_tay :
    (let s := { boot defaultParams 0x0200 [(0x0200, 0xA8)] with a := 0x90 }
     goes s { s with y := 0x90, flags := 0x80, pc := 0x0201 } 2 = true) := by decide

/-- V-TR-3. -/
theorem test_step_txa :
    (let s := { boot defaultParams 0x0200 [(0x0200, 0x8A)] with x := 0x00, a := 0x12 }
     goes s { s with a := 0x00, flags := 0x02, pc := 0x0201 } 2 = true) := by decide

/-- V-TR-4. -/
theorem test_step_tya :
    (let s := { boot defaultParams 0x0200 [(0x0200, 0x98)] with y := 0x7F }
     goes s { s with a := 0x7F, pc := 0x0201 } 2 = true) := by decide

/-- V-TR-5. -/
theorem test_step_tsx :
    (let s := { boot defaultParams 0x0200 [(0x0200, 0xBA)] with sp := 0x00, x := 0x55 }
     goes s { s with x := 0x00, flags := 0x02, pc := 0x0201 } 2 = true) := by decide

/-- V-TR-6. -/
theorem test_step_txs :
    (let s := { boot defaultParams 0x0200 [(0x0200, 0x9A)] with x := 0x80, flags := 0x02 }
     goes s { s with sp := 0x80, pc := 0x0201 } 2 = true) := by decide

/-- V-FL-1. -/
theorem test_step_clc :
    (let s := { boot defaultParams 0x0200 [(0x0200, 0x18)] with flags := 0xFF }
     goes s { s with flags := 0xFE, pc := 0x0201 } 2 = true) := by decide

/-- V-FL-2. -/
theorem test_step_sec :
    (let s := { boot defaultParams 0x0200 [(0x0200, 0x38)] with flags := 0x00 }
     goes s { s with flags := 0x01, pc := 0x0201 } 2 = true) := by decide

/-- V-FL-3. -/
theorem test_step_cli :
    (let s := { boot defaultParams 0x0200 [(0x0200, 0x58)] with flags := 0xFF }
     goes s { s with flags := 0xFB, pc := 0x0201 } 2 = true) := by decide

/-- V-FL-4. -/
theorem test_step_sei :
    (let s := { boot defaultParams 0x0200 [(0x0200, 0x78)] with flags := 0x00 }
     goes s { s with flags := 0x04, pc := 0x0201 } 2 = true) := by decide

/-- V-FL-5. -/
theorem test_step_cld :
    (let s := { boot defaultParams 0x0200 [(0x0200, 0xD8)] with flags := 0xFF }
     goes s { s with flags := 0xF7, pc := 0x0201 } 2 = true) := by decide

/-- V-FL-6. -/
theorem test_step_sed :
    (let s := { boot defaultParams 0x0200 [(0x0200, 0xF8)] with flags := 0x01 }
     goes s { s with flags := 0x09, pc := 0x0201 } 2 = true) := by decide

/-- V-FL-7. -/
theorem test_step_clv :
    (let s := { boot defaultParams 0x0200 [(0x0200, 0xB8)] with flags := 0x40 }
     goes s { s with flags := 0x00, pc := 0x0201 } 2 = true) := by decide

/-- V-ST-1. -/
theorem test_step_pha :
    (let s := { boot defaultParams 0x0200 [(0x0200, 0x48)] with a := 0x99, sp := 0x00 }
     goes s { (s.poke 0x0100 0x99) with sp := 0xFF, pc := 0x0201 } 3 = true) := by decide

/-- V-ST-2. -/
theorem test_step_php :
    (let s := { boot defaultParams 0x0200 [(0x0200, 0x08)] with flags := 0x30, sp := 0xFF }
     goes s { (s.poke 0x01FF 0x30) with sp := 0xFE, pc := 0x0201 } 3 = true) := by decide

/-- V-ST-3. -/
theorem test_step_plp :
    (let s := { boot defaultParams 0x0200 [(0x01FF, 0xFF), (0x0200, 0x28)] with sp := 0xFE }
     goes s { s with sp := 0xFF, flags := 0xEF, pc := 0x0201 } 4 = true) := by decide

/-- V-ST-5, V-ST-6. -/
theorem test_step_pla :
    (let s := { boot defaultParams 0x0200 [(0x0100, 0x00), (0x0200, 0x68)] with a := 0x77, sp := 0xFF }
     goes s { s with a := 0x00, sp := 0x00, flags := 0x02, pc := 0x0201 } 4 = true) ∧
    (let s := { boot defaultParams 0x0200 [(0x01FF, 0x80), (0x0200, 0x68)] with sp := 0xFE }
     goes s { s with a := 0x80, sp := 0xFF, flags := 0x80, pc := 0x0201 } 4 = true) :=
  ⟨by decide, by decide⟩

/-- V-BR-1. -/
theorem test_step_bpl :
    (let s := { boot defaultParams 0x0200 [(0x0200, 0x10), (0x0201, 0x02)] with flags := 0x00 }
     goes s { s with pc := 0x0202 } 3 = true) := by decide

/-- V-BR-2. -/
theorem test_step_bmi :
    (let s := { boot defaultParams 0x0200 [(0x0200, 0x30), (0x0201, 0x00)] with flags := 0x80 }
     goes s { s with pc := 0x0200 } 3 = true) := by decide

/-- V-BR-3. -/
theorem test_step_bvc :
    (let s := { boot defaultParams 0x02FE [(0x02FE, 0x50), (0x02FF, 0x7F)] with flags := 0x00 }
     goes s { s with pc := 0x037D } 4 = true) := by decide

/-- V-BR-4. -/
theorem test_step_bvs :
    (let s := { boot defaultParams 0x0200 [(0x0200, 0x70), (0x0201, 0x10)] with flags := 0x00 }
     goes s { s with pc := 0x0202 } 2 = true) := by decide

/-- V-BR-5. -/
theorem test_step_bcc :
    (let s := { boot defaultParams 0x0280 [(0x0280, 0x90), (0x0281, 0x80)] with flags := 0x00 }
     goes s { s with pc := 0x0200 } 3 = true) := by decide

/-- V-BR-6. -/
theorem test_step_bcs :
    (let s := { boot defaultParams 0x0200 [(0x0200, 0xB0), (0x0201, 0xFE)] with flags := 0x01 }
     goes s { s with pc := 0x01FE } 4 = true) := by decide

/-- V-BR-7. -/
theorem test_step_bne :
    (let s := { boot defaultParams 0x0200 [(0x0200, 0xD0), (0x0201, 0x05)] with flags := 0x00 }
     goes s { s with pc := 0x0205 } 3 = true) := by decide

/-- V-BR-8, V-BR-9. -/
theorem test_step_beq :
    (let s := { boot { defaultParams with branchBaseOffset := .two } 0x0200
        [(0x0200, 0xF0), (0x0201, 0x05)] with flags := 0x02 }
     goes s { s with pc := 0x0207 } 3 = true) ∧
    (let s := { boot defaultParams 0xFFF0 [(0xFFF0, 0xF0), (0xFFF1, 0x7F)] with flags := 0x02 }
     goes s { s with pc := 0x006F } 4 = true) :=
  ⟨by decide, by decide⟩

/-- V-BK-1, V-BK-2, V-BK-3. -/
theorem test_step_brk :
    (let s := { boot defaultParams 0x0300 [(0xFFFE, 0x00), (0xFFFF, 0x90), (0x0300, 0x00)] with flags := 0x01 }
     goes s { (((s.poke 0x01FD 0x11).poke 0x01FE 0x01).poke 0x01FF 0x03) with sp := 0xFC, flags := 0x05, pc := 0x9000 } 7 = true) ∧
    (let s := { boot { defaultParams with brkPushOffset := .two } 0x0300
        [(0xFFFE, 0x00), (0xFFFF, 0x90), (0x0300, 0x00)] with flags := 0x01 }
     goes s { (((s.poke 0x01FD 0x11).poke 0x01FE 0x02).poke 0x01FF 0x03) with sp := 0xFC, flags := 0x05, pc := 0x9000 } 7 = true) ∧
    (let s := { boot defaultParams 0x1234 [(0x1234, 0x00)] with sp := 0x01, flags := 0xC8 }
     goes s { (((s.poke 0x0100 0x35).poke 0x0101 0x12).poke 0x01FF 0xD8) with sp := 0xFE, flags := 0xCC, pc := 0x0000 } 7 = true) :=
  ⟨by decide, by decide, by decide⟩

/-- V-AR-1, V-AR-2, V-AR-3, V-AR-4, V-AR-5, V-AR-10. -/
theorem test_step_adc :
    (let s := { boot defaultParams 0x0200 [(0x0200, 0x69), (0x0201, 0x01)] with a := 0xFF }
     goes s { s with a := 0x00, flags := 0x03, pc := 0x0202 } 2 = true) ∧
    (let s := { boot defaultParams 0x0200 [(0x0200, 0x69), (0x0201, 0x01)] with a := 0x7F }
     goes s { s with a := 0x80, flags := 0xC0, pc := 0x0202 } 2 = true) ∧
    (let s := { boot defaultParams 0x0200 [(0x0200, 0x69), (0x0201, 0x80)] with a := 0x80, flags := 0x00 }
     goes s { s with a := 0x00, flags := 0x43, pc := 0x0202 } 2 = true) ∧
    (let s := { boot defaultParams 0x0200 [(0x0200, 0x69), (0x0201, 0xFF)] with a := 0xFF, flags := 0x01 }
     goes s { s with flags := 0x81, pc := 0x0202 } 2 = true) ∧
    (let s := { boot defaultParams 0x0200 [(0x0200, 0x69), (0x0201, 0x01)] with a := 0x01, flags := 0x08 }
     goes s { s with a := 0x02, pc := 0x0202 } 2 = true) ∧
    (let s := { boot defaultParams 0x0200
        [(0x0020, 0x80), (0x0021, 0x40), (0x417F, 0x05), (0x0200, 0x71), (0x0201, 0x20)] with a := 0x10, y := 0xFF }
     goes s { s with a := 0x15, pc := 0x0202 } 6 = true) :=
  ⟨by decide, by decide, by decide, by decide, by decide, by decide⟩

/-- V-AR-6, V-AR-7, V-AR-8, V-AR-9. -/
theorem test_step_sbc :
    (let s := { boot defaultParams 0x0200 [(0x0200, 0xE9), (0x0201, 0x03)] with a := 0x05, flags := 0x01 }
     goes s { s with a := 0x02, pc := 0x0202 } 2 = true) ∧
    (let s := { boot defaultParams 0x0200 [(0x0200, 0xE9), (0x0201, 0x05)] with a := 0x05, flags := 0x00 }
     goes s { s with a := 0xFF, flags := 0x80, pc := 0x0202 } 2 = true) ∧
    (let s := { boot defaultParams 0x0200 [(0x0200, 0xE9), (0x0201, 0x01)] with a := 0x80, flags := 0x01 }
     goes s { s with a := 0x7F, flags := 0x41, pc := 0x0202 } 2 = true) ∧
    (let s := { boot defaultParams 0x0200 [(0x0200, 0xE9), (0x0201, 0x01)] with a := 0x00, flags := 0x01 }
     goes s { s with a := 0xFF, flags := 0x80, pc := 0x0202 } 2 = true) :=
  ⟨by decide, by decide, by decide, by decide⟩

/-- V-SH-1, V-SH-2. -/
theorem test_step_asl :
    (let s := { boot defaultParams 0x0200 [(0x0200, 0x0A)] with a := 0x80 }
     goes s { s with a := 0x00, flags := 0x03, pc := 0x0201 } 2 = true) ∧
    (let s := boot defaultParams 0x0200 [(0x0010, 0x41), (0x0200, 0x06), (0x0201, 0x10)]
     goes s { (s.poke 0x0010 0x82) with flags := 0x80, pc := 0x0202 } 5 = true) :=
  ⟨by decide, by decide⟩

/-- V-SH-3, V-SH-4. -/
theorem test_step_lsr :
    (let s := { boot defaultParams 0x0200 [(0x0200, 0x4A)] with a := 0x01 }
     goes s { s with a := 0x00, flags := 0x03, pc := 0x0201 } 2 = true) ∧
    (let s := { boot defaultParams 0x0200
        [(0x3000, 0xFF), (0x0200, 0x5E), (0x0201, 0xFF), (0x0202, 0x2F)] with x := 0x01 }
     goes s { (s.poke 0x3000 0x7F) with flags := 0x01, pc := 0x0203 } 8 = true) :=
  ⟨by decide, by decide⟩

/-- V-SH-5, V-SH-6. -/
theorem test_step_rol :
    (let s := { boot defaultParams 0x0200 [(0x0200, 0x2A)] with a := 0x80, flags := 0x00 }
     goes s { s with a := 0x00, flags := 0x03, pc := 0x0201 } 2 = true) ∧
    (let s := { boot defaultParams 0x0200 [(0x0200, 0x2A)] with a := 0x00, flags := 0x01 }
     goes s { s with a := 0x01, flags := 0x00, pc := 0x0201 } 2 = true) :=
  ⟨by decide, by decide⟩

/-- V-SH-7, V-SH-8. -/
theorem test_step_ror :
    (let s := { boot defaultParams 0x0200 [(0x0200, 0x6A)] with a := 0x01, flags := 0x00 }
     goes s { s with a := 0x00, flags := 0x03, pc := 0x0201 } 2 = true) ∧
    (let s := { boot defaultParams 0x0200
        [(0x1234, 0x02), (0x0200, 0x6E), (0x0201, 0x34), (0x0202, 0x12)] with flags := 0x01 }
     goes s { (s.poke 0x1234 0x81) with flags := 0x80, pc := 0x0203 } 6 = true) :=
  ⟨by decide, by decide⟩

/-- V-EX-2. -/
theorem test_step_ora :
    (let s := { boot extParams 0x0200 [(0x0200, 0x09), (0x0201, 0x00)] with a := 0x00 }
     goes s { s with flags := 0x02, pc := 0x0202 } 2 = true) := by decide

/-- V-EX-3. -/
theorem test_step_and :
    (let s := { boot extParams 0x0200
        [(0x3000, 0x81), (0x0200, 0x3D), (0x0201, 0xFF), (0x0202, 0x2F)] with a := 0xFF, x := 0x01 }
     goes s { s with a := 0x81, flags := 0x80, pc := 0x0203 } 5 = true) := by decide

/-- V-EX-4. -/
theorem test_step_eor :
    (let s := { boot extParams 0x0200 [(0x0200, 0x49), (0x0201, 0xFF)] with a := 0xAA }
     goes s { s with a := 0x55, pc := 0x0202 } 2 = true) := by decide

/-- V-EX-5. -/
theorem test_step_bit :
    (let s := { boot extParams 0x0200 [(0x1234, 0xC0), (0x0200, 0x2C), (0x0201, 0x34), (0x0202, 0x12)] with a := 0x3F }
     goes s { s with flags := 0xC2, pc := 0x0203 } 4 = true) := by decide

/-- V-EX-6. -/
theorem test_step_cmp :
    (let s := { boot extParams 0x0200 [(0x0200, 0xC9), (0x0201, 0x01)] with a := 0x00 }
     goes s { s with flags := 0x80, pc := 0x0202 } 2 = true) := by decide

/-- V-EX-7. -/
theorem test_step_cpx :
    (let s := { boot extParams 0x0200 [(0x0200, 0xE0), (0x0201, 0x7F)] with x := 0x80 }
     goes s { s with flags := 0x01, pc := 0x0202 } 2 = true) := by decide

/-- V-EX-8. -/
theorem test_step_cpy :
    (let s := { boot extParams 0x0200 [(0x0200, 0xC0), (0x0201, 0x00)] with y := 0x00 }
     goes s { s with flags := 0x03, pc := 0x0202 } 2 = true) := by decide

/-- V-EX-9, V-EX-10. -/
theorem test_step_jmp :
    (let s := boot extParams 0x0200
        [(0x10FF, 0x34), (0x1100, 0x12), (0x1000, 0x56), (0x0200, 0x6C), (0x0201, 0xFF), (0x0202, 0x10)]
     goes s { s with pc := 0x1234 } 5 = true) ∧
    (let s := boot { extParams with jmpIndPageBug := true } 0x0200
        [(0x10FF, 0x34), (0x1100, 0x12), (0x1000, 0x56), (0x0200, 0x6C), (0x0201, 0xFF), (0x0202, 0x10)]
     goes s { s with pc := 0x5634 } 5 = true) :=
  ⟨by decide, by decide⟩

/-- V-EX-11. -/
theorem test_step_jsr :
    (let s := boot extParams 0x0200 [(0x0200, 0x20), (0x0201, 0x00), (0x0202, 0x03)]
     goes s { ((s.poke 0x01FE 0x02).poke 0x01FF 0x02) with sp := 0xFD, pc := 0x0300 } 6 = true) := by decide

/-- V-EX-12. -/
theorem test_step_rts :
    (let s := { boot extParams 0x0200 [(0x01FE, 0xFF), (0x01FF, 0xFF), (0x0200, 0x60)] with sp := 0xFD }
     goes s { s with sp := 0xFF, pc := 0x0000 } 6 = true) := by decide

/-- V-EX-13. -/
theorem test_step_rti :
    (let s := { boot extParams 0x0200 [(0x01FD, 0xFF), (0x01FE, 0x01), (0x01FF, 0x03), (0x0200, 0x40)] with sp := 0xFC }
     goes s { s with sp := 0xFF, flags := 0xEF, pc := 0x0301 } 6 = true) := by decide

/-- V-EX-14. -/
theorem test_step_nop :
    (let s := boot extParams 0x0200 [(0x0200, 0xEA)]
     goes s { s with pc := 0x0201 } 2 = true) := by decide

/-! ### Decode errors, refusals, the host, reset, the run -/

/-- V-DE-1, V-DE-2, V-DE-3, V-EX-1: the record, and the state untouched. -/
theorem test_decodeError :
    (let s := { boot defaultParams 0x0200 [(0x0200, 0x02)] with a := 0x12, flags := 0xC3 }
     hostStep s = (s, .decodeError 0x02 0x0200)) ∧
    (let s := boot defaultParams 0x0200 [(0x0200, 0xFF)]
     hostStep s = (s, .decodeError 0xFF 0x0200)) ∧
    (let s := boot defaultParams 0x0200 [(0x0200, 0x4C), (0x0202, 0x80)]
     hostStep s = (s, .decodeError 0x4C 0x0200)) ∧
    (let s := boot defaultParams 0x0200 [(0x0200, 0xC9), (0x0201, 0x10)]
     hostStep s = (s, .decodeError 0xC9 0x0200)) :=
  ⟨by decide, by decide, by decide, by decide⟩

/-- R173: ADC and SBC are refused under `refuse` with Decimal 1, before any write; with Decimal 0 they run. -/
theorem test_decimal_refuse :
    (let s := { boot { defaultParams with decimalMode := .refuse } 0x0200 [(0x0200, 0x69), (0x0201, 0x01)] with flags := 0x08 }
     hostStep s = (s, .refused .decimalMode)) ∧
    (let s := { boot { defaultParams with decimalMode := .refuse } 0x0200 [(0x0200, 0xE9), (0x0201, 0x01)] with flags := 0x09 }
     hostStep s = (s, .refused .decimalMode)) ∧
    (let s := { boot { defaultParams with decimalMode := .refuse } 0x0200 [(0x0200, 0x69), (0x0201, 0x01)] with flags := 0x00 }
     goes s { s with a := 0x01, pc := 0x0202 } 2 = true) :=
  ⟨by decide, by decide, by decide⟩

/-- V-AR-S1, V-AR-S2: the source's two examples of the adder (R170). -/
theorem test_addWithCarry :
    addWithCarry 0xFF 0x01 false = ⟨0x00, true, false⟩ ∧ addWithCarry 0x7F 0x01 false = ⟨0x80, false, true⟩ := by decide

/-- V-HZ-1's first step: memory of zeros is BRK through the zero vector. -/
theorem test_reset_memory_is_brk :
    goes State.reset { (((State.reset.poke 0x01FF 0x02).poke 0x01FE 0x01).poke 0x01FD 0x10) with
      sp := 0xFC, flags := 0x04, pc := 0x0000 } 7 = true := by decide

/-- V-SM-1: the operand was read before the store to it. -/
theorem test_store_over_own_operand :
    (let s := { boot defaultParams 0x0300 [(0x0300, 0x8D), (0x0301, 0x02), (0x0302, 0x03), (0x0303, 0x02)] with a := 0x55 }
     goes s { s.poke 0x0302 0x55 with pc := 0x0303 } 4 = true) := by decide

/-- V-RS-1: the hard reset to 0x8000, by host calls. -/
theorem test_hardReset :
    hostCall (.hardReset 0x8000) (.unreset defaultParams) =
      (.running { State.reset with pc := 0x8000, mem := [(0xFFFD, 0x80)] }, .done) ∧
    (hostCall .readPc (.running (hardReset defaultParams 0x8000))).2 = .word 0x8000 ∧
    State.reset = hardReset defaultParams 0x0200 := by decide

/-- V-RS-2, V-RS-3: the soft reset reads the vector as it is now; before a hard reset it is refused. -/
theorem test_softReset :
    (let s := { boot defaultParams 0x0200 [(0xFFFC, 0x00), (0xFFFD, 0x90)] with a := 0x11, sp := 0x80, cyc := 5 }
     softReset s = { s with pc := 0x9000, sp := 0xFF }) ∧
    hostCall .softReset (.unreset defaultParams) = (.unreset defaultParams, .refused .beforeHardReset) :=
  ⟨by decide, by decide⟩

/-- R30, R31, R46: the host's accessors, one of each. -/
theorem test_host_accessors :
    (hostCallRunning State.reset (.readReg .sp)).2 = .byte 0xFF ∧
    (hostCallRunning State.reset (.peekWord 0xFFFC)).2 = .word 0x0200 ∧
    (hostCallRunning State.reset (.pokeWord 0xFFFF 0x1234)).1.peekWord 0xFFFF = 0x1234 ∧
    (hostCallRunning State.reset (.writeReg .flags 0xFF)).1.flags = 0xFF ∧
    (hostCallRunning State.reset (.flagSet 0xC0 true)).1.flags = 0xC0 ∧
    (hostCallRunning { State.reset with flags := 0x40 } (.flagGet 0xC0)).2 = .bit true ∧
    (hostCallRunning State.reset (.pokeByte 0x0200 0xEA)).1.mem = [(0x0200, 0xEA), (0xFFFD, 0x02)] := by decide

/-- V-DA-S1: the disassembler's exact texts (D17). -/
theorem test_disassemble :
    (let text := fun bs => disassemble (pokeBytes State.reset 0x0300 bs) 0x0300
     text [0xA9, 0x05] = .instr "LDA #$05" 2 ∧ text [0xA5, 0x10] = .instr "LDA $10" 2 ∧
     text [0xAD, 0x34, 0x12] = .instr "LDA $1234" 3 ∧ text [0xBD, 0x34, 0x12] = .instr "LDA $1234, X" 3 ∧
     text [0xB6, 0x10] = .instr "LDX $10, Y" 2 ∧ text [0xA1, 0x20] = .instr "LDA ($20, X)" 2 ∧
     text [0xB1, 0x20] = .instr "LDA ($20), Y" 2 ∧ text [0xD0, 0xFD] = .instr "BNE -3" 2 ∧
     text [0xF0, 0x05] = .instr "BEQ 5" 2 ∧ text [0xE8] = .instr "INX" 1 ∧ text [0x02] = .raw "db $02" 1 ∧
     text [0x4C, 0x00, 0x80] = .raw "db $4C" 1) := by decide

/-- R318: a decode error at `HALT_ADDR` is the normal end, anywhere else a fault. -/
theorem test_run_end :
    (let s := boot defaultParams 0x0200 [(0x0200, 0x02)]
     runTo 0x0200 1 s = .halted s ∧ runTo 0x0201 1 s = .faulted (.decodeError 0x02 0x0200) s) := by decide

/-- R43: a write keeps memory canonical; writing zero removes the cell. -/
theorem test_memory_canonical :
    Memory.setByte [(1, 0x05), (3, 0x07)] 2 0x06 = [(1, 0x05), (2, 0x06), (3, 0x07)] ∧
    Memory.setByte [(1, 0x05), (3, 0x07)] 3 0x00 = [(1, 0x05)] ∧ Memory.wf [(3, 0x07), (1, 0x05)] = false ∧
    Memory.wf [(3, 0x00)] = false ∧ Memory.wf [(65536, 0x01)] = false ∧ State.reset.mem.wf = true := by decide

/-! ### Witnesses: a state and operands that meet the hypotheses of each statement -/

/-- The base state with one byte at PC, under the extension parameters. -/
def at0 (op : Byte) : State := boot extParams 0x0200 [(0x0200, op)]

theorem witness_EncodeThenDecodeGivesTheInstruction :
    (Instr.bne 0x80).wellFormed false = true ∧ (Instr.jmpInd 0xFFFF).wellFormed true = true := by decide

theorem witness_DecodeThenEncodeGivesTheBytes :
    decode false [0xBD, 0xFF, 0xFF, 0x00] = .ok (.ldaAbx 0xFFFF, [0x00]) ∧ decode true [0x60] = .ok (.rts, []) :=
  ⟨rfl, rfl⟩

theorem witness_StepRunsTheDecodedInstruction :
    (let s := at0 0xEA
     decode s.cfg.extNmos [s.peek s.pc, s.peek (s.pc + 1), s.peek (s.pc + 2)] = .ok (.nop, [0x00, 0x00])) ∧
    (let s := boot defaultParams 0xFFFF [(0xFFFF, 0xA9), (0x0000, 0x07)]
     decode s.cfg.extNmos [s.peek s.pc, s.peek (s.pc + 1), s.peek (s.pc + 2)] = .ok (.ldaImm 0x07, [0x00])) :=
  ⟨rfl, rfl⟩

theorem witness_DecodeErrorReportsTheByteAndChangesNothing :
    (let s := at0 0x02; lookup s.cfg.extNmos (s.peek s.pc) = none) ∧
    (let s := { at0 0xEA with cfg := defaultParams }; lookup s.cfg.extNmos (s.peek s.pc) = none) ∧
    step (at0 0x02) = .fault (.decodeError 0x02 0x0200) := ⟨by decide, by decide, rfl⟩

theorem witness_OnlyDecimalArithmeticIsRefused :
    exec (.adcImm 0x01) { State.reset with flags := 0x08, cfg := { defaultParams with decimalMode := .refuse } } =
      .refused .decimalMode ∧
    exec (.sbcZp 0x01) { State.reset with flags := 0xFF, cfg := { defaultParams with decimalMode := .refuse } } =
      .refused .decimalMode := ⟨rfl, rfl⟩

theorem witness_EveryInstructionCompletesInBinaryMode :
    State.reset.cfg.decimalMode = .binary ∧ { State.reset with flags := 0x08 }.cfg.decimalMode = .binary := by decide

theorem witness_StepMovesPcPastTheInstruction :
    (∃ t, exec .nop { State.reset with pc := 0xFFFF } = .next t) ∧ mayOwnPc (Instr.nop).entry.mnemonic = false ∧
    (∃ t, exec (.beq 0x05) State.reset = .next t) ∧ branchTest (Instr.beq 0x05).entry.mnemonic ≠ none ∧
    branchTaken (.beq 0x05) State.reset = false := ⟨⟨_, rfl⟩, rfl, ⟨_, rfl⟩, by decide, by decide⟩

theorem witness_CompletedStepAddsItsCost :
    (∃ t, exec .inx (at0 0xE8) = .next t) ∧ fetch (at0 0xE8) = .ok .inx ∧
    (∃ t, exec .inx { at0 0xE8 with cyc := 2 ^ 64 - 1 } = .next t) := ⟨⟨_, rfl⟩, rfl, ⟨_, rfl⟩⟩

/-- The costs at the ends of the ranges: 2, 8 with the write penalty, 7 without it. -/
theorem witness_StepCostsTwoToEightCycles :
    stepCost .nop State.reset = 2 ∧ stepCost (.incAbx 0x2FFF) { State.reset with x := 0x01 } = 8 ∧
    stepCost (.incAbx 0x2FFF) { State.reset with x := 0x01, cfg := { defaultParams with penaltyOnWrite := false } } = 7 :=
  by decide

theorem witness_EveryStepKeepsTheInvariant :
    Inv State.reset ∧ (∃ t, step State.reset = .next t) ∧
    Inv { at0 0x48 with a := 0x05, cyc := 2 ^ 64 - 1 } ∧
    (∃ t, step { at0 0x48 with a := 0x05, cyc := 2 ^ 64 - 1 } = .next t) ∧
    (hostCallRunning State.reset (.pokeWord 0xFFFF 0x1200)).1.mem.length = 2 :=
  ⟨⟨by decide, by decide⟩, ⟨_, rfl⟩, ⟨by decide, by decide⟩, ⟨_, rfl⟩, by decide⟩

/-- For the statements about any step that completes: a store, a branch, a push, and BRK complete. -/
theorem witness_completed_steps :
    (∃ t, step (at0 0x8D) = .next t) ∧ (∃ t, step (at0 0xD0) = .next t) ∧ (∃ t, step (at0 0x08) = .next t) ∧
    (∃ t, step (at0 0x00) = .next t) := ⟨⟨_, rfl⟩, ⟨_, rfl⟩, ⟨_, rfl⟩, ⟨_, rfl⟩⟩

theorem witness_NothingButCycDependsOnCyc : ∃ t, step { at0 0x48 with cyc := 2 ^ 64 - 1 } = .next t := ⟨_, rfl⟩

theorem witness_PenaltyOnWriteTouchesOnlyTheCost :
    ∃ t, step (boot defaultParams 0x0200 [(0x0200, 0x9D), (0x0201, 0xF0), (0x0202, 0x20)]) = .next t := ⟨_, rfl⟩

/-- PHP at the bottom and BRK near the bottom of the stack page, each with a byte beside the pushed flags; SEI pushes
none. -/
theorem witness_InterruptDisableDecidesNothing :
    (∃ t, exec .php { State.reset with sp := 0x00 } = .next t) ∧ (Instr.php).entry.mnemonic = .PHP ∧
    (0x01FF : Word) ≠ 0x0100 + (0x00 : Byte).setWidth 16 ∧
    (∃ t, exec .brk { State.reset with flags := 0x04, sp := 0x01 } = .next t) ∧ (Instr.brk).entry.mnemonic = .BRK ∧
    (0x0100 : Word) ≠ 0x0100 + (0x01 - 2 : Byte).setWidth 16 ∧
    (∃ t, exec .sei State.reset = .next t) ∧ (Instr.sei).entry.mnemonic ≠ .PHP ∧
    (Instr.sei).entry.mnemonic ≠ .BRK ∧ State.reset.mem.wf = true :=
  ⟨⟨_, rfl⟩, by decide, by decide, ⟨_, rfl⟩, by decide, by decide, ⟨_, rfl⟩, by decide, by decide, by decide⟩

/-- Each flag has an instruction outside its writers: LDA for bits 0, 2 to 6 (NOP for 1 and 7). -/
theorem witness_FlagsChangeOnlyByTheirWriters :
    (∃ t, exec (.ldaImm 0x80) { State.reset with flags := 0xFF } = .next t) ∧
    (∃ t, exec .nop { State.reset with flags := 0xFF } = .next t) ∧
    (4, [Mnemonic.PLP, .RTI]) ∈ [(4, [Mnemonic.PLP, .RTI]), (5, [.PLP, .RTI])] ∧
    (Instr.ldaImm 0x80).entry.mnemonic ∉ [Mnemonic.PLP, .RTI] ∧
    (Instr.ldaImm 0x80).entry.mnemonic ∉ [Mnemonic.ADC, .SBC, .CLV, .PLP, .BIT, .RTI] ∧
    (Instr.nop).entry.mnemonic ∉ [Mnemonic.LDA, .LDX, .LDY, .PLP, .RTI] :=
  ⟨⟨_, rfl⟩, ⟨_, rfl⟩, by decide, by decide, by decide, by decide⟩

/-- A memory shift lists A among its mnemonic's writers; a store and a branch write no register. -/
theorem witness_RegistersChangeOnlyByTheirWriters :
    (∃ t, exec (.staZp 0xFF) State.reset = .next t) ∧ (∃ t, exec (.bne 0x80) State.reset = .next t) ∧
    (Instr.staZp 0xFF).entry.mnemonic ∉ [Mnemonic.LDX, .TAX, .TSX, .INX, .DEX] ∧
    (Instr.bne 0x80).entry.mnemonic ∉ [Mnemonic.TXS, .PHA, .PHP, .PLA, .PLP, .BRK, .JSR, .RTS, .RTI] :=
  ⟨⟨_, rfl⟩, ⟨_, rfl⟩, by decide, by decide⟩

theorem witness_OnlyStoringInstructionsWriteMemory :
    (∃ t, exec .aslAcc State.reset = .next t) ∧
    (Instr.aslAcc).entry.mnemonic ∉ [Mnemonic.STA, .STX, .STY, .INC, .DEC, .PHA, .PHP, .BRK, .JSR] ∧
    (Instr.aslAcc).operand = .implicit ∧ (∃ t, exec .rti State.reset = .next t) ∧
    (Instr.rti).entry.mnemonic ∉ [Mnemonic.STA, .STX, .STY, .INC, .DEC, .PHA, .PHP, .BRK, .JSR] ∧
    (Instr.rti).entry.mnemonic ∉ [Mnemonic.ASL, .LSR, .ROL, .ROR] :=
  ⟨⟨_, rfl⟩, by decide, by decide, ⟨_, rfl⟩, by decide, by decide⟩

theorem witness_StackWritesStayInTheStackPage :
    (∃ t, exec (.jsr 0x0300) { State.reset with sp := 0x00 } = .next t) ∧
    (Instr.jsr 0x0300).entry.mnemonic ∈ [Mnemonic.PHA, .PHP, .BRK, .JSR] ∧ hi (0x00FF : Word) ≠ 0x01 ∧
    hi (0x0200 : Word) ≠ 0x01 := ⟨⟨_, rfl⟩, by decide, by decide, by decide⟩

theorem witness_LoadsPutTheOperandInTheRegister :
    [((Instr.ldaImm 0x00).entry.mnemonic, Reg8.a), ((Instr.ldaIzy 0xFF).entry.mnemonic, .a),
     ((Instr.ldxZpy 0xFF).entry.mnemonic, .x), ((Instr.ldyAbx 0xFFFF).entry.mnemonic, .y)].all
      (· ∈ [(Mnemonic.LDA, Reg8.a), (.LDX, .x), (.LDY, .y)]) = true := by decide

theorem witness_StoresWriteTheRegisterAtTheAddress :
    State.reset.mem.wf = true ∧
    [((Instr.staAbx 0xFFFF).entry.mnemonic, Reg8.a), ((Instr.stxZpy 0xFF).entry.mnemonic, .x),
     ((Instr.styZp 0x00).entry.mnemonic, .y)].all (· ∈ [(Mnemonic.STA, Reg8.a), (.STX, .x), (.STY, .y)]) = true := by
  decide

theorem witness_IncAndDecChangeTheMemoryByte :
    State.reset.mem.wf = true ∧
    [((Instr.incZp 0x00).entry.mnemonic, 1), ((Instr.decAbx 0xFFFF).entry.mnemonic, 255)].all
      (· ∈ [(Mnemonic.INC, 1), (.DEC, 255)]) = true := by decide

theorem witness_RegisterIncrementsWrap :
    [((Instr.inx).entry.mnemonic, Reg8.x, 1), ((Instr.iny).entry.mnemonic, .y, 1), ((Instr.dex).entry.mnemonic, .x, 255),
     ((Instr.dey).entry.mnemonic, .y, 255)] =
      [(Mnemonic.INX, Reg8.x, 1), (.INY, .y, 1), (.DEX, .x, 255), (.DEY, .y, 255)] := by decide

theorem witness_TransfersCopyTheRegister :
    [(Instr.tax).entry.mnemonic, (Instr.tay).entry.mnemonic, (Instr.txa).entry.mnemonic, (Instr.tya).entry.mnemonic,
     (Instr.tsx).entry.mnemonic] = [Mnemonic.TAX, .TAY, .TXA, .TYA, .TSX] := by decide

theorem witness_FlagInstructionsWriteOneBit :
    [(Instr.clc).entry.mnemonic, (Instr.sec).entry.mnemonic, (Instr.cli).entry.mnemonic, (Instr.sei).entry.mnemonic,
     (Instr.cld).entry.mnemonic, (Instr.sed).entry.mnemonic, (Instr.clv).entry.mnemonic] =
      [Mnemonic.CLC, .SEC, .CLI, .SEI, .CLD, .SED, .CLV] := by decide

theorem witness_PushesStoreTheByteBelowTheStack :
    { State.reset with sp := 0x00 }.mem.wf = true ∧
    [((Instr.pha).entry.mnemonic, Reg8.a), ((Instr.php).entry.mnemonic, .flags)] =
      [(Mnemonic.PHA, Reg8.a), (.PHP, .flags)] := by decide

theorem witness_PushWritesBelowTheStackAndWraps :
    { State.reset with sp := 0x00 }.mem.wf = true ∧ (List.replicate 256 (0x5A : Byte)).length = 256 :=
  ⟨by decide, List.length_replicate⟩

theorem witness_PullReturnsWhatWasPushed :
    State.reset.mem.wf = true ∧ { State.reset with sp := 0x00 }.mem.wf = true := by decide

/-- Each branch with its flag at the value that takes it; the opposite flag byte gives the other clause. -/
theorem witness_BranchesFollowTheirFlag :
    [(Instr.bpl 0x80, 7, false, (0x7F : Byte), (0x80 : Byte)), (.bmi 0x7F, 7, true, 0x80, 0x7F),
     (.bvc 0x00, 6, false, 0xBF, 0x40), (.bvs 0xFF, 6, true, 0x40, 0xBF), (.bcc 0x01, 0, false, 0xFE, 0x01),
     (.bcs 0x02, 0, true, 0x01, 0xFE), (.bne 0xFD, 1, false, 0xFD, 0x02), (.beq 0x05, 1, true, 0x02, 0xFD)].all
      (fun w => (w.1.entry.mnemonic, w.2.1, w.2.2.1) ∈ [(Mnemonic.BPL, 7, false), (.BMI, 7, true), (.BVC, 6, false),
        (.BVS, 6, true), (.BCC, 0, false), (.BCS, 0, true), (.BNE, 1, false), (.BEQ, 1, true)] ∧
        w.2.2.2.1.getLsbD w.2.1 = w.2.2.1 ∧ w.2.2.2.2.getLsbD w.2.1 ≠ w.2.2.1) = true := by decide

theorem witness_BrkSavesAndGoesThroughTheVector : { State.reset with sp := 0x01 }.mem.wf = true := by decide

theorem witness_RtiUndoesBrk :
    State.reset.mem.wf = true ∧ (∃ t, exec .brk { State.reset with sp := 0x01 } = .next t) := ⟨by decide, ⟨_, rfl⟩⟩

/-- A pointer at the end of its page, with and without the page bug. -/
theorem witness_JmpGoesToItsTarget :
    (0xFFFF : Word).toNat % 256 = 255 ∧ (0x10FE : Word).toNat % 256 ≠ 255 ∧
    { defaultParams with jmpIndPageBug := true }.jmpIndPageBug = true := by decide

theorem witness_JsrPushesAndJumps : { State.reset with sp := 0x00 }.mem.wf = true := by decide

theorem witness_RtsUndoesJsr :
    State.reset.mem.wf = true ∧ (∃ t, exec (.jsr 0xFFFF) { State.reset with sp := 0x00, pc := 0xFFFF } = .next t) :=
  ⟨by decide, ⟨_, rfl⟩⟩

/-- Both ways of meeting ADC's and SBC's hypothesis: binary mode with Decimal 1, and `refuse` with Decimal 0. -/
theorem witness_AdcAndSbc :
    (Instr.adcIzx 0xFF).entry.mnemonic = .ADC ∧ (Instr.sbcImm 0x80).entry.mnemonic = .SBC ∧
    { State.reset with flags := 0x08 }.cfg.decimalMode = .binary ∧
    { State.reset with cfg := { defaultParams with decimalMode := .refuse } }.flags.getLsbD 3 = false := by decide

theorem witness_MemoryShiftsMoveOneBit :
    State.reset.mem.wf = true ∧ (Instr.rorAbx 0xFFFF).operand = .memory (.absoluteX 0xFFFF) ∧
    [(Instr.aslZp 0x00).entry.mnemonic, (Instr.lsrAbs 0xFFFF).entry.mnemonic, (Instr.rolZpx 0xFF).entry.mnemonic,
     (Instr.rorAbx 0xFFFF).entry.mnemonic] = [Mnemonic.ASL, .LSR, .ROL, .ROR] := by decide

theorem witness_AccumulatorShiftsMoveOneBit :
    Instr.aslAcc ∈ [Instr.aslAcc, .lsrAcc, .rolAcc, .rorAcc] ∧ Instr.rorAcc ∈ [Instr.aslAcc, .lsrAcc, .rolAcc, .rorAcc] :=
  by decide

theorem witness_LogicCombinesBitsIntoA :
    [(Instr.oraImm 0x00).entry.mnemonic, (Instr.andIzy 0xFF).entry.mnemonic, (Instr.eorAbx 0xFFFF).entry.mnemonic] =
      [Mnemonic.ORA, .AND, .EOR] := by decide

theorem witness_BitTestsTheMemoryByte :
    (Instr.bitZp 0xFF).entry.mnemonic = .BIT ∧ (Instr.bitAbs 0xFFFF).entry.mnemonic = .BIT := by decide

theorem witness_ComparesOrderRegisterAndOperand :
    [((Instr.cmpImm 0x80).entry.mnemonic, Reg8.a), ((Instr.cpxZp 0xFF).entry.mnemonic, .x),
     ((Instr.cpyAbs 0xFFFF).entry.mnemonic, .y)] = [(Mnemonic.CMP, Reg8.a), (.CPX, .x), (.CPY, .y)] := by decide

/-- Both clauses of the read: the written address and another, at the end of the address space. -/
theorem witness_ByteReadAfterByteWrite :
    State.reset.mem.wf = true ∧ (State.reset.poke 0xFFFF 0x07).peek 0xFFFF = 0x07 ∧
    (State.reset.poke 0xFFFF 0x07).peek 0x0000 = State.reset.peek 0x0000 := by decide

theorem witness_WordWriteIsLittleEndian :
    State.reset.mem.wf = true ∧ (State.reset.pokeWord 0xFFFF 0x1234).peek 0x0000 = 0x12 := by decide

/-- Indexing at its boundaries: the last sum that stays in the page and the first that leaves it, and both wraps. -/
theorem witness_indexing :
    crosses (.absoluteX 0x20F0) { State.reset with x := 0x0F } = false ∧
    crosses (.absoluteX 0x20F0) { State.reset with x := 0x10 } = true ∧
    effectiveAddress (.absoluteY 0xFFFF) { State.reset with y := 0x01 } = 0x0000 ∧
    effectiveAddress (.zeroPageX 0xFF) { State.reset with x := 0x01 } = 0x0000 := by decide

/-- A pointer at 0xFF, with and without `ZP_PTR_WRAP` (R57). -/
theorem witness_zero_page_pointer :
    (let s := boot defaultParams 0x0200 [(0x00FF, 0x34), (0x0100, 0x12), (0x0000, 0x56)]
     effectiveAddress (.preIndexed 0xFE) { s with x := 0x01 } = 0x1234 ∧
     effectiveAddress (.postIndexed 0xFF) { s with cfg := { defaultParams with zpPtrWrap := true } } = 0x5634) := by decide

theorem witness_DisassemblyLengthIsTheStepLength :
    lookup (at0 0xEA).cfg.extNmos ((at0 0xEA).peek (at0 0xEA).pc) = some (Instr.nop).entry ∧
    (∃ t, step (at0 0xEA) = .next t) ∧ mayOwnPc (Instr.nop).entry.mnemonic = false ∧
    branchTaken (.beq 0x05) (at0 0xF0) = false := ⟨by decide, ⟨_, rfl⟩, rfl, by decide⟩

theorem witness_RunEndsAtItsFirstDecodeError :
    (let s := boot defaultParams 0x0200 [(0x0200, 0xE8), (0x0201, 0x02)]
     ∃ t, runTo 0x0201 1 s = .running t ∧ step t = .fault (.decodeError 0x02 0x0201)) := ⟨_, rfl, rfl⟩

end Sys2Proof.Tests
end

section
/-! SUPPORT. What an instruction leaves alone, read off its mnemonic (R23, R24, R26), and the statements of 10_state.md.
`exec_writerFrame` says it once, by a split on the instruction's shape; each body is built from a few writes of State, and
each such write keeps the frame where the mnemonic is one of its writers. -/

namespace Sys2Proof.Machine

/-! ### The writers -/

/-- The written-by column of R23 and R24. Flags' writers stand bit by bit in `flagWriters`. -/
def registerWriters : Reg8 → List Mnemonic
  | .a => [.LDA, .TXA, .TYA, .PLA, .ADC, .SBC, .ASL, .LSR, .ROL, .ROR, .ORA, .AND, .EOR]
  | .x => [.LDX, .TAX, .TSX, .INX, .DEX]
  | .y => [.LDY, .TAY, .INY, .DEY]
  | .sp => [.TXS, .PHA, .PHP, .PLA, .PLP, .BRK, .JSR, .RTS, .RTI]
  | .flags => []

/-- The written-by column of R26, by bit number; Zero and Negative have the same writers. No bit from 8 up exists. -/
def flagWriters : Nat → List Mnemonic
  | 0 => [.ADC, .SBC, .ASL, .LSR, .ROL, .ROR, .CLC, .SEC, .PLP, .CMP, .CPX, .CPY, .RTI]
  | 1 | 7 => [.LDA, .LDX, .LDY, .INC, .DEC, .INX, .INY, .DEX, .DEY, .TAX, .TAY, .TXA, .TYA, .TSX, .PLA, .ADC, .SBC, .ASL,
      .LSR, .ROL, .ROR, .PLP, .ORA, .AND, .EOR, .BIT, .CMP, .CPX, .CPY, .RTI]
  | 2 => [.CLI, .SEI, .BRK, .PLP, .RTI]
  | 3 => [.CLD, .SED, .PLP, .RTI]
  | 6 => [.ADC, .SBC, .CLV, .PLP, .BIT, .RTI]
  | _ => [.PLP, .RTI]

/-- The instructions that push (R24, R64). -/
def pushers : List Mnemonic := [.PHA, .PHP, .BRK, .JSR]

/-- The mnemonic is a writer of every bit of the mask. -/
abbrev WritesMask (mn : Mnemonic) (m : Byte) : Prop := ∀ k < 8, m.getLsbD k = true → mn ∈ flagWriters k

/-- The mnemonic is a writer of Zero and Negative (R28). -/
abbrev WritesZN (mn : Mnemonic) : Prop := WritesMask mn maskZ ∧ WritesMask mn maskN

/-- The mnemonic is a writer of the register, which is not Flags, and of Zero and Negative. -/
abbrev WritesRegZN (mn : Mnemonic) (r : Reg8) : Prop := r ≠ .flags ∧ mn ∈ registerWriters r ∧ WritesZN mn

/-- A fact about every entry of a list of mnemonics and parameters, at the entry that a shape names. -/
theorem holds_of_mem {α : Type} {l : List (Mnemonic × α)} {mn : Mnemonic} {a : α} (hm : (mn, a) ∈ l)
    (P : Mnemonic → α → Prop) (h : ∀ p ∈ l, P p.1 p.2) : P mn a := h _ hm

/-! ### Flags -/

/-- A byte is not zero exactly where one of its bits is set. -/
theorem ne_zero_iff_exists_bit (b : Byte) : b ≠ 0x00 ↔ ∃ k, b.getLsbD k = true := by
  constructor
  · intro hb
    by_contra hnone
    push Not at hnone
    exact hb (BitVec.eq_of_getLsbD_eq fun k _ => by simpa [-BitVec.getLsbD_eq_getElem] using hnone k)
  · rintro ⟨k, hk⟩ rfl
    simp at hk

/-- `FlagGet` is true exactly where mask and Flags share a bit (R31). -/
theorem flagGet_eq_true_iff (m f : Byte) : flagGet m f = true ↔ ∃ k, m.getLsbD k = true ∧ f.getLsbD k = true := by
  rw [flagGet, bne_iff_ne, ne_zero_iff_exists_bit]
  simp only [BitVec.getLsbD_and, Bool.and_eq_true, and_comm]

/-- The bits that the mnemonic does not write are those of `g`. -/
def KeepsFlags (mn : Mnemonic) (g f : Byte) : Prop := ∀ k, mn ∉ flagWriters k → f.getLsbD k = g.getLsbD k

theorem KeepsFlags.refl (mn : Mnemonic) (g : Byte) : KeepsFlags mn g g := fun _ _ => rfl

/-- Every flag computation but PLP's and RTI's is made of this one step. -/
theorem KeepsFlags.flagSet {mn : Mnemonic} {g f m : Byte} (hm : WritesMask mn m) (v : Bool) (hf : KeepsFlags mn g f) :
    KeepsFlags mn g (flagSet m v f) := by
  intro k hk
  have hbit : m.getLsbD k ≠ true := fun h => hk (hm k (BitVec.lt_of_getLsbD h) h)
  rw [getLsbD_flagSet, if_neg hbit, hf k hk]

theorem KeepsFlags.setZN {mn : Mnemonic} {g f : Byte} (hzn : WritesZN mn) (v : Byte) (hf : KeepsFlags mn g f) :
    KeepsFlags mn g (setZN v f) :=
  (hf.flagSet hzn.1 _).flagSet hzn.2 _

/-- A byte function writes Carry, or no flag at all (R110, R111, R180 to R183). -/
theorem keepsFlags_byteFn {mn : Mnemonic} {fn : Byte → Byte → Byte × Byte}
    (hm : (mn, fn) ∈ [(Mnemonic.INC, incByte), (.DEC, decByte), (.ASL, aslByte), (.LSR, lsrByte), (.ROL, rolByte),
      (.ROR, rorByte)]) (v g : Byte) : KeepsFlags mn g (fn v g).2 := by
  simp only [List.mem_cons, Prod.mk.injEq, List.not_mem_nil, or_false] at hm
  obtain ⟨rfl, rfl⟩ | ⟨rfl, rfl⟩ | ⟨rfl, rfl⟩ | ⟨rfl, rfl⟩ | ⟨rfl, rfl⟩ | ⟨rfl, rfl⟩ := hm
  · exact .refl _ g
  · exact .refl _ g
  all_goals exact KeepsFlags.flagSet (by decide) _ (.refl _ g)

/-- PLP and RTI write Flags whole (R143, R212). -/
theorem mem_flagWriters_of_restore {mn : Mnemonic} (hm : mn ∈ [Mnemonic.PLP, .RTI]) (k : Nat) : mn ∈ flagWriters k := by
  simp only [List.mem_cons, List.not_mem_nil, or_false] at hm
  obtain rfl | rfl := hm <;> unfold flagWriters <;> split <;> decide

theorem keepsFlags_of_restore {mn : Mnemonic} (hm : mn ∈ [Mnemonic.PLP, .RTI]) (g f : Byte) : KeepsFlags mn g f :=
  fun k hk => absurd (mem_flagWriters_of_restore hm k) hk

/-! ### The frame of a state -/

/-- What `u` still has of `s` when only the writers of the mnemonic `mn` have been at work. -/
structure WriterFrame (mn : Mnemonic) (s u : State) : Prop where
  reg : ∀ r, r ≠ .flags → mn ∉ registerWriters r → u.reg r = s.reg r
  flags : KeepsFlags mn s.flags u.flags
  offStack : mn ∈ pushers → ∀ b : Word, hi b ≠ 0x01 → u.peek b = s.peek b

namespace WriterFrame
variable {mn : Mnemonic} {s u : State}

theorem refl (mn : Mnemonic) (s : State) : WriterFrame mn s s := ⟨fun _ _ _ => rfl, .refl _ _, fun _ _ _ => rfl⟩

theorem setReg (hu : WriterFrame mn s u) {r : Reg8} (hr : r ≠ .flags) (hw : mn ∈ registerWriters r) (v : Byte) :
    WriterFrame mn s (u.setReg r v) where
  reg q hq hn := by
    have hne : q ≠ r := fun h => hn (h ▸ hw)
    rw [State.reg_setReg_ne _ _ hne, hu.reg q hq hn]
  flags := by
    have hf : (u.setReg r v).flags = u.flags := State.reg_setReg_ne u v hr.symm
    exact hf ▸ hu.flags
  offStack hp b hb := by rw [State.setReg_peek, hu.offStack hp b hb]

theorem setFlags (hu : WriterFrame mn s u) {f : Byte} (hf : KeepsFlags mn s.flags f) :
    WriterFrame mn s (u.setFlags f) where
  reg q hq hn := by rw [State.setFlags_reg _ _ hq, hu.reg q hq hn]
  flags := hf
  offStack hp b hb := by rw [State.setFlags_peek, hu.offStack hp b hb]

/-- A store, by an instruction that does not push. -/
theorem poke (hu : WriterFrame mn s u) (hn : mn ∉ pushers) (a : Word) (v : Byte) : WriterFrame mn s (u.poke a v) where
  reg q hq hw := by rw [State.poke_reg, hu.reg q hq hw]
  flags := hu.flags
  offStack hp := absurd hp hn

theorem push (hu : WriterFrame mn s u) (hw : mn ∈ registerWriters .sp) (v : Byte) : WriterFrame mn s (u.push v) where
  reg := (hu.setReg (r := .sp) (by decide) hw _).reg
  flags := hu.flags
  offStack hp b hb := by
    have hne : b ≠ stackAddr u.sp := fun h => hb (h ▸ hi_stackAddr _)
    exact (State.peek_poke_ne u v hne).trans (hu.offStack hp b hb)

theorem pull (hu : WriterFrame mn s u) (hw : mn ∈ registerWriters .sp) : WriterFrame mn s u.pull :=
  hu.setReg (r := .sp) (by decide) hw _

/-- The epilogue touches PC and CYC alone (R79). -/
theorem epilogue (hu : WriterFrame mn s u) (w : Word) (n : Nat) : WriterFrame mn s ((u.setPc w).addCost n) where
  reg q hq hn := by rw [endStep_reg, hu.reg q hq hn]
  flags := hu.flags
  offStack := hu.offStack

theorem of_endStep {e : Entry} {n : Nat} {t : State} (h : endStep e n u = .next t) (hu : WriterFrame mn s u) :
    WriterFrame mn s t := by
  cases h
  exact hu.epilogue _ _

theorem of_endStepAt {e : Entry} {n : Nat} {w : Word} {t : State} (h : endStepAt e n w u = .next t)
    (hu : WriterFrame mn s u) : WriterFrame mn s t := by
  cases h
  exact hu.epilogue _ _

/-- A register takes a byte and Zero and Negative follow a byte. -/
theorem setRegZN {r : Reg8} (hw : WritesRegZN mn r) (v w : Byte) :
    WriterFrame mn s ((s.setReg r v).setFlags (setZN w s.flags)) := by
  obtain ⟨hr, hreg, hzn⟩ := hw
  exact ((refl mn s).setReg hr hreg v).setFlags (.setZN hzn w (.refl _ _))

end WriterFrame

/-- The body of ADC and SBC, under the byte that the adder adds. -/
theorem writerFrame_adderStep {mn : Mnemonic} (hm : mn ∈ [Mnemonic.ADC, .SBC]) {m : Byte} {p : Nat} {e : Entry}
    {s t : State} (h : adderStep m p e s = .next t) : WriterFrame mn s t := by
  have hw : ∀ q ∈ [Mnemonic.ADC, .SBC], q ∈ registerWriters .a ∧ WritesMask q maskC ∧ WritesMask q maskV ∧
      WritesZN q := by decide
  obtain ⟨ha, hc, hv, hzn⟩ := hw mn hm
  obtain ⟨-, hr⟩ | ⟨-, hr⟩ := adderStep_cases m p e s <;> rw [hr] at h
  · cases h
  · exact .of_endStep h (((WriterFrame.refl mn s).setReg (by decide) ha _).setFlags
      (.setZN hzn _ (.flagSet hv _ (.flagSet hc _ (.refl _ _)))))

/-- The inversion of `exec` for what an instruction leaves alone: only its writers change a register or a flag, and an
instruction that pushes writes page 0x01 alone. -/
theorem exec_writerFrame {i : Instr} {s t : State} (h : exec i s = .next t) : WriterFrame i.entry.mnemonic s t := by
  have same := WriterFrame.refl i.entry.mnemonic s
  cases shape i with
  | load r src hm _ _ he =>
    rw [he] at h
    exact .of_endStep h (.setRegZN (holds_of_mem hm WritesRegZN (by decide)) _ _)
  | store r f hm _ _ he =>
    rw [he] at h
    exact .of_endStep h (same.poke (holds_of_mem hm (fun q _ => q ∉ pushers) (by decide)) _ _)
  | modifyMemory fn f hm _ _ he =>
    rw [he] at h
    obtain ⟨hp, hzn⟩ := holds_of_mem hm (fun q _ => q ∉ pushers ∧ WritesZN q) (by decide)
    exact .of_endStep h ((same.poke hp _ _).setFlags (.setZN hzn _ (keepsFlags_byteFn hm _ _)))
  | modifyAccumulator fn hm _ _ he =>
    rw [he] at h
    obtain ⟨ha, hzn⟩ := holds_of_mem hm (fun q _ => q ∈ registerWriters .a ∧ WritesZN q) (by decide)
    exact .of_endStep h ((same.setReg (by decide) ha _).setFlags
      (.setZN hzn _ (keepsFlags_byteFn (.tail _ (.tail _ hm)) _ _)))
  | setRegister r v hm _ he =>
    rw [he] at h
    exact .of_endStep h (.setRegZN (holds_of_mem hm (fun q p => WritesRegZN q p.1) (by decide)) _ _)
  | txs hi =>
    subst hi
    exact .of_endStep h (same.setReg (r := .sp) (by decide) (by decide) _)
  | writeFlag m v hm _ he =>
    rw [he] at h
    have hw : WritesMask i.entry.mnemonic m := holds_of_mem hm (fun q p => WritesMask q p.1) (by decide)
    exact .of_endStep h (same.setFlags (.flagSet hw _ (.refl _ _)))
  | pushRegister r hm _ he =>
    rw [he] at h
    exact .of_endStep h (same.push (holds_of_mem hm (fun q _ => q ∈ registerWriters .sp) (by decide)) _)
  | pla hi =>
    subst hi
    exact .of_endStep h (((same.pull (by decide)).setReg (r := .a) (by decide) (by decide) _).setFlags
      (.setZN (by decide) _ (.refl _ _)))
  | plp hi =>
    subst hi
    exact .of_endStep h ((same.pull (by decide)).setFlags (keepsFlags_of_restore (by decide) _ _))
  | branchOn m v d _ _ _ _ he =>
    rw [he] at h
    obtain ⟨-, hb⟩ | ⟨-, hb⟩ := branchOn_cases m v i.entry d s <;> rw [hb] at h
    · exact .of_endStepAt h same
    · exact .of_endStep h same
  | brk hi =>
    subst hi
    cases h
    exact ((((same.push (by decide) _).push (by decide) _).push (by decide) _).setFlags
      (.flagSet (by decide) _ (.refl _ _))).epilogue _ _
  | rti hi =>
    subst hi
    cases h
    exact ((((same.pull (by decide)).setFlags (keepsFlags_of_restore (by decide) _ _)).pull (by decide)).pull
      (by decide)).epilogue _ _
  | addOperand src hm _ _ he =>
    rw [he] at h
    exact writerFrame_adderStep (by rw [hm]; decide) h
  | subOperand src hm _ _ he =>
    rw [he] at h
    exact writerFrame_adderStep (by rw [hm]; decide) h
  | combine fn src hm _ _ he =>
    rw [he] at h
    exact .of_endStep h (.setRegZN (holds_of_mem hm (fun q _ => WritesRegZN q .a) (by decide)) _ _)
  | bitTest f hm _ _ he =>
    rw [he] at h
    rw [hm]
    exact .of_endStep h ((WriterFrame.refl _ s).setFlags
      (.flagSet (by decide) _ (.flagSet (by decide) _ (.flagSet (by decide) _ (.refl _ _)))))
  | compareRegister r src hm _ _ he =>
    rw [he] at h
    obtain ⟨hc, hzn⟩ := holds_of_mem hm (fun q _ => WritesMask q maskC ∧ WritesZN q) (by decide)
    exact .of_endStep h (same.setFlags (.setZN hzn _ (.flagSet hc _ (.refl _ _))))
  | jump w _ _ _ he =>
    rw [he] at h
    exact .of_endStepAt h same
  | jsr w hi =>
    subst hi
    have hsp : Mnemonic.JSR ∈ registerWriters .sp := by decide
    exact .of_endStepAt h ((same.push hsp _).push hsp _)
  | rts hi =>
    subst hi
    exact .of_endStepAt h ((same.pull (by decide)).pull (by decide))
  | nop hi =>
    subst hi
    exact .of_endStep h same

/-! ### The statements -/

/-- Settles O9: the inversion of `exec` leaves PC past the instruction or names an executor that owns PC, and the
hypothesis excludes the second. -/
theorem stepMovesPcPastTheInstruction : Obligations.StepMovesPcPastTheInstruction := by
  intro i s t h hpc
  obtain ⟨n, u, w, -, rfl, hu⟩ := exec_next h
  rw [State.addCost_pc, State.setPc_pc]
  obtain hw | ⟨howns, htaken⟩ := hu.pc
  · exact hw
  · obtain hnever | ⟨hbranch, hnot⟩ := hpc
    · exact absurd (howns.symm.trans hnever) (by decide)
    · exact absurd ((htaken hbranch).symm.trans hnot) (by decide)

/-- Settles O10: the cost the epilogue adds is `stepCost`, which the host's reply carries. -/
theorem completedStepAddsItsCost : Obligations.CompletedStepAddsItsCost := by
  intro i s t h
  constructor
  · obtain ⟨n, u, w, hcost, rfl, hu⟩ := exec_next h
    rw [State.addCost_cyc, State.setPc_cyc, State.setPc_cfg, hu.cyc, hu.cfg, hcost]
  · intro hf
    simp only [hostStep, hf, h]

/-- Settles O17: each row of the column is `flagWriters`, and a completed instruction keeps every other bit. -/
theorem flagsChangeOnlyByTheirWriters : Obligations.FlagsChangeOnlyByTheirWriters := by
  intro i s t k writers h hrow hn
  have hkeep := (exec_writerFrame h).flags
  simp only [List.mem_cons, Prod.mk.injEq, List.not_mem_nil, or_false] at hrow
  obtain ⟨rfl, rfl⟩ | ⟨rfl, rfl⟩ | ⟨rfl, rfl⟩ | ⟨rfl, rfl⟩ | ⟨rfl, rfl⟩ | ⟨rfl, rfl⟩ | ⟨rfl, rfl⟩ | ⟨rfl, rfl⟩ := hrow <;>
    exact hkeep _ hn

/-- Settles O18: each row of the column is `registerWriters`, and a completed instruction keeps every other register. -/
theorem registersChangeOnlyByTheirWriters : Obligations.RegistersChangeOnlyByTheirWriters := by
  intro i s t r writers h hrow hn
  have hkeep := (exec_writerFrame h).reg
  simp only [List.mem_cons, Prod.mk.injEq, List.not_mem_nil, or_false] at hrow
  obtain ⟨rfl, rfl⟩ | ⟨rfl, rfl⟩ | ⟨rfl, rfl⟩ | ⟨rfl, rfl⟩ := hrow <;> exact hkeep _ (by decide) hn

/-- Settles O20: each push lies at a stack address, whose high byte is 0x01 for every SP. -/
theorem stackWritesStayInTheStackPage : Obligations.StackWritesStayInTheStackPage :=
  fun _ _ _ h hm => (exec_writerFrame h).offStack hm

/-- Settles O59: the rule of the read and the rule of the write, for every mask. -/
theorem flagMaskReadsAnyAndWritesAll : Obligations.FlagMaskReadsAnyAndWritesAll :=
  fun m f v => ⟨flagGet_eq_true_iff m f, getLsbD_flagSet m v f⟩

end Sys2Proof.Machine
end

section
/-! SUPPORT. The invariant over every step and host call, what PENALTY_ON_WRITE decides, reads after writes, the stack, and
the indexed and indirect addresses in numbers: the statements of 20_memory.md. -/

namespace Sys2Proof.Machine

/-! ### The invariant -/

/-- CYC after any cost fits its width (R27). -/
theorem State.addCost_cyc_lt (s : State) (n : Nat) : (s.addCost n).cyc < 2 ^ (s.addCost n).cfg.cycWidth :=
  Nat.mod_lt _ (Nat.two_pow_pos _)

/-- Whatever completes keeps the invariant: the body keeps memory canonical, the epilogue reduces CYC. -/
theorem inv_of_exec {i : Instr} {s t : State} (hs : Inv s) (h : exec i s = .next t) : Inv t := by
  obtain ⟨n, u, w, -, rfl, hu⟩ := exec_next h
  exact ⟨hu.wf hs.1, State.addCost_cyc_lt _ _⟩

theorem inv_of_step {s t : State} (hs : Inv s) (h : step s = .next t) : Inv t := by
  obtain ⟨i, -, hi⟩ := exec_of_step h
  exact inv_of_exec hs hi

theorem inv_hardReset (p : Params) (w : Word) : Inv (hardReset p w) :=
  ⟨resetMemory_wf w, Nat.two_pow_pos _⟩

/-- The host's step leaves the state the step completed in, or the state it found (R302, R319). -/
theorem hostStep_state (s : State) : (hostStep s).1 = s ∨ step s = .next (hostStep s).1 := by
  obtain ⟨i, -, hf, hs, -⟩ | ⟨-, hf, -⟩ := step_cases s
  · rw [hs]
    simp only [hostStep, hf]
    cases h : exec i s with
    | next t => exact .inr rfl
    | fault f => exact .inl rfl
    | refused r => exact .inl rfl
  · exact .inl (by simp only [hostStep, hf])

theorem inv_hostStep {s : State} (hs : Inv s) : Inv (hostStep s).1 := by
  obtain h | h := hostStep_state s
  · rwa [h]
  · exact inv_of_step hs h

/-- Of the host's calls `step`, `hardReset` and the two pokes reach what the invariant speaks of. -/
theorem inv_hostCallRunning {s : State} (hs : Inv s) (c : HostCall) : Inv (hostCallRunning s c).1 := by
  have ⟨hmem, hcyc⟩ := hs
  cases c with
  | step => exact inv_hostStep hs
  | hardReset w => exact inv_hardReset s.cfg w
  | pokeByte a v => exact ⟨Memory.wf_poke hmem a v, hcyc⟩
  | pokeWord a w => exact ⟨Memory.wf_pokeWord hmem a w, hcyc⟩
  | writeReg r v => simpa [hostCallRunning, Inv] using hs
  | softReset | writePc | flagSet => exact ⟨hmem, hcyc⟩
  | disassemble | readReg | readPc | flagGet | peekByte | peekWord | readCyc => exact hs

/-- Settles O12: the inversion of `exec` for a step, and a split on the call for the host. -/
theorem everyStepKeepsTheInvariant : Obligations.EveryStepKeepsTheInvariant :=
  fun _ hs => ⟨fun _ => inv_of_step hs, inv_hostCallRunning hs⟩

/-! ### PENALTY_ON_WRITE -/

/-- The state with another cycle count and another `PENALTY_ON_WRITE`: as far as two runs can come apart that differ in
this parameter alone. -/
def State.withCost (s : State) (n : Nat) (b : Bool) : State :=
  { s with cyc := n, cfg := { s.cfg with penaltyOnWrite := b } }

/-- Where `r` completes, `r'` completes in the same state but for CYC and `PENALTY_ON_WRITE`. -/
def SameButCost (b : Bool) (r r' : Result) : Prop := ∀ t, r = .next t → ∃ n, r' = .next (t.withCost n b)

section
variable (s : State) (n : Nat) (b : Bool)

@[simp] theorem State.withCost_a : (s.withCost n b).a = s.a := rfl
@[simp] theorem State.withCost_x : (s.withCost n b).x = s.x := rfl
@[simp] theorem State.withCost_y : (s.withCost n b).y = s.y := rfl
@[simp] theorem State.withCost_sp : (s.withCost n b).sp = s.sp := rfl
@[simp] theorem State.withCost_flags : (s.withCost n b).flags = s.flags := rfl
@[simp] theorem State.withCost_peek (a : Word) : (s.withCost n b).peek a = s.peek a := rfl

@[simp] theorem State.withCost_reg (r : Reg8) : (s.withCost n b).reg r = s.reg r := by cases r <;> rfl

@[simp] theorem State.withCost_setReg (r : Reg8) (v : Byte) :
    (s.withCost n b).setReg r v = (s.setReg r v).withCost n b := by cases r <;> rfl

@[simp] theorem State.withCost_setFlags (f : Byte) :
    (s.withCost n b).setFlags f = (s.setFlags f).withCost n b := rfl

@[simp] theorem State.withCost_poke (a : Word) (v : Byte) :
    (s.withCost n b).poke a v = (s.poke a v).withCost n b := rfl

@[simp] theorem State.withCost_push (v : Byte) : (s.withCost n b).push v = (s.push v).withCost n b := rfl

@[simp] theorem effectiveAddress_withCost (f : MemForm) :
    effectiveAddress f (s.withCost n b) = effectiveAddress f s := by cases f <;> rfl

@[simp] theorem sourceByte_withCost (src : Source) : sourceByte src (s.withCost n b) = sourceByte src s := by
  cases src with
  | immediate v => rfl
  | memory f => simp [sourceByte]

end

section
variable {b : Bool} (s : State) (n : Nat)

theorem sameButCost_endStep (e : Entry) (p p' : Nat) : SameButCost b (endStep e p s) (endStep e p' (s.withCost n b)) := by
  rintro t ⟨⟩
  exact ⟨_, rfl⟩

theorem sameButCost_endStepAt (e : Entry) (p p' : Nat) (w : Word) :
    SameButCost b (endStepAt e p w s) (endStepAt e p' w (s.withCost n b)) := by
  rintro t ⟨⟩
  exact ⟨_, rfl⟩

theorem sameButCost_endOwned (e : Entry) : SameButCost b (endOwned e s) (endOwned e (s.withCost n b)) := by
  rintro t ⟨⟩
  exact ⟨_, rfl⟩

theorem sameButCost_adderStep (m : Byte) (p p' : Nat) (e : Entry) :
    SameButCost b (adderStep m p e s) (adderStep m p' e (s.withCost n b)) := by
  obtain ⟨-, h⟩ | ⟨hd, h⟩ := adderStep_cases m p e s <;> rw [h]
  · rintro t ⟨⟩
  · obtain ⟨hd', -⟩ | ⟨-, h'⟩ := adderStep_cases m p' e (s.withCost n b)
    · exact absurd (hd.symm.trans hd') (by decide)
    · rw [h']
      exact sameButCost_endStep _ n e p p'

theorem sameButCost_branchOn (mask : Byte) (v : Bool) (e : Entry) (d : Byte) :
    SameButCost b (branchOn mask v e d s) (branchOn mask v e d (s.withCost n b)) := by
  unfold branchOn
  rw [State.withCost_flags]
  split
  · exact sameButCost_endStepAt s n e _ _ _
  · exact sameButCost_endStep s n e _ _

/-- No instruction's effect but its cost depends on CYC or on `PENALTY_ON_WRITE` (R62). -/
theorem exec_sameButCost (i : Instr) : SameButCost b (exec i s) (exec i (s.withCost n b)) := by
  cases shape i with
  | load r src _ _ _ he =>
    simp only [he, load, sourceByte_withCost, State.withCost_setReg]
    exact sameButCost_endStep _ n _ _ _
  | store r f _ _ _ he =>
    simp only [he, store, effectiveAddress_withCost, State.withCost_reg]
    exact sameButCost_endStep _ n _ _ _
  | modifyMemory fn f _ _ _ he =>
    simp only [he, modifyMemory, effectiveAddress_withCost]
    exact sameButCost_endStep _ n _ _ _
  | modifyAccumulator fn _ _ _ he =>
    simp only [he]
    exact sameButCost_endStep _ n _ _ _
  | setRegister r v hm _ he =>
    have hv : v (s.withCost n b) = v s :=
      holds_of_mem hm (fun _ q => q.2 (s.withCost n b) = q.2 s) (by simp)
    simp only [he, setRegister, hv, State.withCost_setReg]
    exact sameButCost_endStep _ n _ _ _
  | txs hi =>
    subst hi
    exact sameButCost_endStep (s.setReg .sp s.x) n _ _ _
  | writeFlag m v _ _ he =>
    simp only [he]
    exact sameButCost_endStep _ n _ _ _
  | pushRegister r _ _ he =>
    simp only [he, pushRegister, State.withCost_reg]
    exact sameButCost_endStep _ n _ _ _
  | pla hi =>
    subst hi
    exact sameButCost_endStep ((s.pull.setReg .a s.pulled).setFlags (setZN s.pulled s.flags)) n _ _ _
  | plp hi =>
    subst hi
    exact sameButCost_endStep (s.pull.setFlags (restoredFlags s.pulled)) n _ _ _
  | branchOn m v d _ _ _ _ he =>
    simp only [he]
    exact sameButCost_branchOn s n m v _ d
  | brk hi =>
    subst hi
    exact sameButCost_endOwned (takeTrap s) n _
  | rti hi =>
    subst hi
    exact sameButCost_endOwned (returnFromTrap s) n _
  | addOperand src _ _ _ he =>
    simp only [he, addOperand, sourceByte_withCost]
    exact sameButCost_adderStep s n _ _ _ _
  | subOperand src _ _ _ he =>
    simp only [he, subOperand, sourceByte_withCost]
    exact sameButCost_adderStep s n _ _ _ _
  | combine fn src _ _ _ he =>
    simp only [he, combine, sourceByte_withCost]
    exact sameButCost_endStep _ n _ _ _
  | bitTest f _ _ _ he =>
    simp only [he, bitTest, sourceByte_withCost]
    exact sameButCost_endStep _ n _ _ _
  | compareRegister r src _ _ _ he =>
    simp only [he, compareRegister, sourceByte_withCost, State.withCost_reg]
    exact sameButCost_endStep _ n _ _ _
  | jump w hm _ _ he =>
    have hw : w (s.withCost n b) = w s := by obtain ⟨w', -, rfl⟩ | ⟨p, -, rfl⟩ := hm <;> rfl
    simp only [he, hw]
    exact sameButCost_endStepAt s n _ _ _ _
  | jsr w hi =>
    subst hi
    exact sameButCost_endStepAt (s.push16 (s.pc + 2)) n _ _ _ w
  | rts hi =>
    subst hi
    exact sameButCost_endStepAt s.pull16 n _ _ _ (s.pulled16 + 1)
  | nop hi =>
    subst hi
    exact sameButCost_endStep s n _ _ _

/-- The fetch reads PC, memory and `EXT_NMOS` alone, so the step runs the same instruction. -/
theorem step_sameButCost : SameButCost b (step s) (step (s.withCost n b)) := by
  intro t h
  obtain ⟨i, hf, hi⟩ := exec_of_step h
  have hf' : fetch (s.withCost n b) = .ok i := hf
  simp only [step, hf']
  exact exec_sameButCost s n i t hi

end

/-- Settles O15: the step under the other setting ends in `t` with another CYC. -/
theorem penaltyOnWriteTouchesOnlyTheCost : Obligations.PenaltyOnWriteTouchesOnlyTheCost := by
  intro s t b h
  obtain ⟨n, hn⟩ := step_sameButCost s s.cyc (b := b) t h
  exact ⟨t.withCost n b, hn, rfl⟩

/-! ### Memory -/

/-- Settles O50: the two laws of memory, split on whether the read address is the written one. -/
theorem byteReadAfterByteWrite : Obligations.ByteReadAfterByteWrite := by
  intro s a b v hwf
  split
  · next hb => rw [hb, State.peek_poke_same hwf]
  · next hb => exact State.peek_poke_ne s v hb

/-- An address and the next one modulo 65536 differ (R45). -/
theorem addr_ne_succ (a : Word) : a ≠ a + 1 := by bv_omega

/-- The low byte of a written word lies at its address (R45). -/
theorem State.peek_pokeWord {s : State} (hwf : s.mem.wf = true) (a w : Word) : (s.pokeWord a w).peek a = lo w :=
  (Memory.peek_poke_ne _ _ (addr_ne_succ a)).trans (Memory.peek_poke_same hwf a _)

/-- The high byte of a written word lies at the next address (R45). -/
theorem State.peek_pokeWord_succ {s : State} (hwf : s.mem.wf = true) (a w : Word) :
    (s.pokeWord a w).peek (a + 1) = hi w :=
  Memory.peek_poke_same (Memory.wf_poke hwf a _) (a + 1) _

/-- A word is the byte at its address and the byte at the next (R44). -/
theorem State.peekWord_eq (s : State) (a : Word) : s.peekWord a = mkWord (s.peek (a + 1)) (s.peek a) := rfl

/-- Settles O51: each byte of the word where R45 puts it, and R44 puts them together again. -/
theorem wordWriteIsLittleEndian : Obligations.WordWriteIsLittleEndian := by
  intro s a w hwf
  have hlow := State.peek_pokeWord hwf a w
  have hhigh := State.peek_pokeWord_succ hwf a w
  refine ⟨by rw [hlow, toNat_lo], by rw [hhigh, toNat_hi], ?_⟩
  rw [State.peekWord_eq, hlow, hhigh, mkWord_hi_lo]

/-! ### The stack -/

/-- Pushes of any bytes take their number from SP modulo 256 (R64). -/
theorem sp_foldl_push (s : State) (vs : List Byte) : (vs.foldl State.push s).sp = s.sp - BitVec.ofNat 8 vs.length := by
  induction vs generalizing s with
  | nil => simp
  | cons v vs ih =>
    rw [List.foldl_cons, ih, State.push_sp, List.length_cons]
    bv_omega

theorem State.push_reg (s : State) (v : Byte) {q : Reg8} (hq : q ≠ .sp) : (s.push v).reg q = s.reg q :=
  (State.reg_setReg_ne (s.poke (stackAddr s.sp) v) (s.sp - 1) hq).trans (State.poke_reg s _ v q)

/-- The pushed byte lies at 0x0100 + SP (R64). -/
theorem State.peek_push_same {s : State} (hwf : s.mem.wf = true) (v : Byte) : (s.push v).peek (stackAddr s.sp) = v :=
  State.peek_poke_same hwf _ v

/-- A push writes no other byte (R64). -/
theorem State.peek_push_ne (s : State) (v : Byte) {b : Word} (hb : b ≠ stackAddr s.sp) : (s.push v).peek b = s.peek b :=
  State.peek_poke_ne s v hb

/-- Settles O31: one push by the rules of its store, and 256 of them by the length's remainder modulo 256. -/
theorem pushWritesBelowTheStackAndWraps : Obligations.PushWritesBelowTheStackAndWraps := by
  constructor
  · intro s v hwf
    refine ⟨State.peek_push_same hwf v, fun b => State.peek_push_ne s v, ?_, fun q => State.push_reg s v, rfl⟩
    rw [State.push_sp]
    bv_omega
  · intro s vs hlen
    rw [sp_foldl_push, hlen]
    exact BitVec.sub_zero _

/-- The byte that a pull returns lies one above SP (R65). -/
theorem State.pulled_eq (s : State) : s.pulled = s.peek (stackAddr (s.sp + 1)) := rfl

/-- The two bytes that a 16-bit pull returns lie one and two above SP, the low byte first (R66). -/
theorem State.pulled16_eq (s : State) :
    s.pulled16 = mkWord (s.peek (stackAddr (s.sp + 1 + 1))) (s.peek (stackAddr (s.sp + 1))) := rfl

theorem State.pulled_push {s : State} (hwf : s.mem.wf = true) (v : Byte) : (s.push v).pulled = v := by
  rw [State.pulled_eq, State.push_sp, BitVec.sub_add_cancel, State.peek_push_same hwf]

/-- The second push of a 16-bit push leaves the first one's byte alone, since the two values of SP differ. -/
theorem State.pulled16_push16 {s : State} (hwf : s.mem.wf = true) (w : Word) : (s.push16 w).pulled16 = w := by
  have hne : stackAddr s.sp ≠ stackAddr (s.sp - 1) := fun h => absurd (stackAddr_inj h) (by bv_omega)
  have hlow : (s.push16 w).peek (stackAddr (s.sp - 1)) = lo w := State.peek_push_same (State.wf_push hwf _) _
  have hhigh : (s.push16 w).peek (stackAddr s.sp) = hi w :=
    (State.peek_push_ne (s.push (hi w)) _ hne).trans (State.peek_push_same hwf _)
  rw [State.pulled16_eq, State.push16_sp, BitVec.sub_add_cancel, BitVec.sub_add_cancel, hlow, hhigh, mkWord_hi_lo]

/-- Settles O32: the increments of a pull undo the decrements of the push, so it reads the bytes just written. -/
theorem pullReturnsWhatWasPushed : Obligations.PullReturnsWhatWasPushed := by
  intro s v w hwf
  exact ⟨State.pulled_push hwf v, by simp, State.pulled16_push16 hwf w, by simp⟩

/-! ### Addresses in numbers -/

@[simp] theorem toNat_zext16 (b : Byte) : (zext16 b).toNat = b.toNat :=
  BitVec.toNat_setWidth_of_le (by decide)

/-- A 16-bit base plus a byte, modulo 65536 (R56). -/
theorem toNat_add_zext16 (w : Word) (i : Byte) : (w + zext16 i).toNat = (w.toNat + i.toNat) % 65536 := by
  rw [BitVec.toNat_add, toNat_zext16]

/-- Adding a byte to a base changes its high byte exactly where the low byte overflows (R60). -/
theorem pageCross_add_zext16 (w : Word) (i : Byte) :
    pageCross w (w + zext16 i) = decide (256 ≤ w.toNat % 256 + i.toNat) := by
  have hw := w.isLt
  have hi8 := i.isLt
  rw [pageCross, Bool.eq_iff_iff, bne_iff_ne, decide_eq_true_iff, ne_eq, ← BitVec.toNat_inj, toNat_hi, toNat_hi,
    toNat_add_zext16]
  omega

/-- Settles O52: the 8-bit sum wraps before it becomes an address, and no index is added after. -/
theorem zeroPageIndexingWraps : Obligations.ZeroPageIndexingWraps := by
  intro s z
  refine ⟨rfl, toNat_zext16 z, crosses_of_base rfl, ?_, ?_, crosses_of_base rfl, crosses_of_base rfl⟩
  · exact (toNat_zext16 _).trans (BitVec.toNat_add z s.x)
  · exact (toNat_zext16 _).trans (BitVec.toNat_add z s.y)

/-- Settles O53: a base plus a zero-extended index, for X and for Y. -/
theorem absoluteIndexingWrapsAndCrosses : Obligations.AbsoluteIndexingWrapsAndCrosses := fun s w =>
  ⟨rfl, crosses_of_base rfl, toNat_add_zext16 w s.x, toNat_add_zext16 w s.y, pageCross_add_zext16 w s.x,
    pageCross_add_zext16 w s.y⟩

/-- A zero-page pointer's word: its high byte lies in the next byte, which `ZP_PTR_WRAP` keeps in the zero page (R57). -/
theorem toNat_zpWord (s : State) (p : Byte) :
    (zpWord s p).toNat = (s.peek (BitVec.ofNat 16 p.toNat)).toNat +
      256 * (s.peek (BitVec.ofNat 16 (if s.cfg.zpPtrWrap then (p.toNat + 1) % 256 else p.toNat + 1))).toNat := by
  have hlow : BitVec.ofNat 16 p.toNat = zext16 p := BitVec.ofNat_toNat 16 p
  have hwrap : BitVec.ofNat 16 ((p.toNat + 1) % 256) = zext16 (p + 1) := by
    have hsucc : (p + 1).toNat = (p.toNat + 1) % 256 := BitVec.toNat_add p 1
    rw [← hsucc, BitVec.ofNat_toNat, zext16]
  have hnext : BitVec.ofNat 16 (p.toNat + 1) = zext16 p + 1 := by rw [← hlow]; bv_omega
  rw [hlow, zpWord]
  split
  · rw [hwrap, toNat_mkWord, Nat.add_comm]
  · rw [hnext, State.peekWord_eq, toNat_mkWord, Nat.add_comm]

/-- Settles O54: the pointer lies at the 8-bit sum, and the mode adds no index after. -/
theorem preIndexedReadsItsPointer : Obligations.PreIndexedReadsItsPointer := by
  intro s z
  have hp : (z + s.x).toNat = (z.toNat + s.x.toNat) % 256 := BitVec.toNat_add z s.x
  rw [← hp]
  exact ⟨toNat_zpWord s (z + s.x), crosses_of_base rfl⟩

/-- Settles O55: an indexed address whose base is the pointer's word, and that word's low byte decides the cross. -/
theorem postIndexedAddsYToThePointer : Obligations.PostIndexedAddsYToThePointer := by
  intro s z
  have hword := toNat_zpWord s z
  have haddr := toNat_add_zext16 (zpWord s z) s.y
  have hcross := pageCross_add_zext16 (zpWord s z) s.y
  have hlow := (s.peek (BitVec.ofNat 16 z.toNat)).isLt
  rw [hword, Nat.add_mul_mod_self_left, Nat.mod_eq_of_lt hlow] at hcross
  rw [hword] at haddr
  exact ⟨haddr, hcross⟩

end Sys2Proof.Machine
end

section
/-! SUPPORT. The decoder against the encoder, that only decimal arithmetic can fail to complete, and what a step runs at
bytes that decode: the statements of 30_encoding.md. -/

namespace Sys2Proof

/-! ### What a row of the table reads -/

/-- The instructions that a row makes, one for each operand of its format (R70). -/
inductive Form.Makes : Form → Instr → Prop where
  | implied (i : Instr) : Makes (.implied i) i
  | byte (mk : Byte → Instr) (b : Byte) : Makes (.byte mk) (mk b)
  | word (mk : Word → Instr) (w : Word) : Makes (.word mk) (mk w)

/-- Every instruction has a row under its own opcode (R74, R75). -/
theorem exists_form_makes (i : Instr) : ∃ f, opcodeForm i.entry.opcode = some f ∧ f.Makes i := by
  cases i <;> exact ⟨_, rfl, by constructor⟩

/-- The instructions that a row makes have its entry and its opcode byte. -/
theorem Form.Makes.entry_eq {op : Byte} {f : Form} {i : Instr} (hm : f.Makes i) (hf : opcodeForm op = some f) :
    f.entry = i.entry ∧ i.entry.opcode = op := by
  have hrow := opcodeForm_row hf
  cases hm with
  | implied i => exact ⟨rfl, hrow.1⟩
  | byte mk b => exact ⟨(hrow b).1.symm, (hrow b).2.1⟩
  | word mk w => exact ⟨(hrow w).1.symm, (hrow w).2.1⟩

/-- After the opcode of a row that is present, the decoder reads the operand bytes of what the row makes, and no more
(R70, R77). -/
theorem decode_of_form {ext : Bool} {op : Byte} {f : Form} (hf : opcodeForm op = some f)
    (hp : f.entry.present ext = true) (bs rest : List Byte) (i : Instr) :
    decode ext (op :: bs) = .ok (i, rest) ↔ f.Makes i ∧ bs = i.operand.bytes ++ rest := by
  have hrow := opcodeForm_row hf
  simp only [decode, hf, hp, if_true]
  constructor
  · intro h
    split at h
    · cases h
      exact ⟨.implied i, by rw [hrow.2, List.nil_append]⟩
    · next mk b _ =>
      cases h
      exact ⟨.byte mk b, by rw [(hrow b).2.2]; rfl⟩
    · next mk b1 b2 _ =>
      cases h
      exact ⟨.word mk _, by rw [(hrow _).2.2, lo_mkWord, hi_mkWord]; rfl⟩
    · cases h
  · rintro ⟨hm, rfl⟩
    cases hm with
    | implied i => rw [hrow.2]; rfl
    | byte mk b => rw [(hrow b).2.2]; rfl
    | word mk w => rw [(hrow w).2.2]; simp

/-- The decoder is the inverse of the encoder on the instructions of the table, whatever bytes follow (R70, R77). -/
theorem decode_eq_ok_iff (ext : Bool) (bytes rest : List Byte) (i : Instr) :
    decode ext bytes = .ok (i, rest) ↔ i.wellFormed ext = true ∧ bytes = encode i ++ rest := by
  constructor
  · intro h
    cases bytes with
    | nil => cases h
    | cons op bs =>
      cases hl : lookup ext op with
      | none => rw [decode_of_lookup_none hl] at h; cases h
      | some e =>
        obtain ⟨f, hf, hp, -⟩ := lookup_eq_some.1 hl
        obtain ⟨hm, rfl⟩ := (decode_of_form hf hp bs rest i).1 h
        obtain ⟨he, rfl⟩ := hm.entry_eq hf
        have hwf : i.entry.present ext = true := he ▸ hp
        exact ⟨hwf, rfl⟩
  · rintro ⟨hwf, rfl⟩
    obtain ⟨f, hf, hm⟩ := exists_form_makes i
    have hp : f.entry.present ext = true := (hm.entry_eq hf).1 ▸ hwf
    exact (decode_of_form hf hp _ rest i).2 ⟨hm, rfl⟩

/-- Settles O1: the direction from the encoding of the inverse law. -/
theorem encodeThenDecodeGivesTheInstruction : Obligations.EncodeThenDecodeGivesTheInstruction :=
  fun ext i rest hwf => (decode_eq_ok_iff ext _ rest i).2 ⟨hwf, rfl⟩

/-- Settles O2: the direction from the bytes of the inverse law. -/
theorem decodeThenEncodeGivesTheBytes : Obligations.DecodeThenEncodeGivesTheBytes :=
  fun ext bytes rest i => (decode_eq_ok_iff ext bytes rest i).1

/-- Settles O4: a look at each of the 256 bytes, without the extension and with it. -/
theorem opcodesWithoutAnEntryAreTheListedOnes : Obligations.OpcodesWithoutAnEntryAreTheListedOnes := by
  intro ext op
  cases ext with
  | false => revert op; decide
  | true => revert op; decide

end Sys2Proof

namespace Sys2Proof.Machine

/-! ### What executes -/

/-- The adder completes where `DecimalCheck()` does not refuse (R173). -/
theorem adderStep_completes_or_refused (m : Byte) (p : Nat) (e : Entry) (s : State) :
    (∃ t, adderStep m p e s = .next t) ∨ (adderStep m p e s = .refused .decimalMode ∧ decimalRefused s = true) := by
  obtain ⟨hd, h⟩ | ⟨-, h⟩ := adderStep_cases m p e s
  · exact .inr ⟨h, hd⟩
  · exact .inl ⟨_, h⟩

/-- Every instruction completes, but for ADC and SBC where `DecimalCheck()` refuses (R81, R173). -/
theorem exec_completes_or_refused (i : Instr) (s : State) :
    (∃ t, exec i s = .next t) ∨
      (exec i s = .refused .decimalMode ∧ decimalRefused s = true ∧ i.entry.mnemonic ∈ [Mnemonic.ADC, .SBC]) := by
  cases shape i with
  | addOperand src hm _ _ he =>
    rw [he, hm]
    exact (adderStep_completes_or_refused _ _ _ s).imp_right fun ⟨h, hd⟩ => ⟨h, hd, by decide⟩
  | subOperand src hm _ _ he =>
    rw [he, hm]
    exact (adderStep_completes_or_refused _ _ _ s).imp_right fun ⟨h, hd⟩ => ⟨h, hd, by decide⟩
  | branchOn m v d _ _ _ _ he =>
    rw [he]
    obtain ⟨-, h⟩ | ⟨-, h⟩ := branchOn_cases m v i.entry d s
    · exact .inl ⟨_, h⟩
    · exact .inl ⟨_, h⟩
  | load | store | modifyMemory | modifyAccumulator | setRegister | writeFlag | pushRegister | combine | bitTest
    | compareRegister | jump =>
    rename_i he
    exact .inl ⟨_, he s⟩
  | txs hi | pla hi | plp hi | brk hi | rti hi | jsr _ hi | rts hi | nop hi =>
    subst hi
    exact .inl ⟨_, rfl⟩

/-- `DecimalCheck()` never refuses with the default `DECIMAL_MODE` (R173). -/
theorem decimalRefused_of_binary {s : State} (h : s.cfg.decimalMode = .binary) : decimalRefused s = false := by
  simp [decimalRefused, h]

/-- Settles O8: the one refusal needs `DECIMAL_MODE = refuse`. -/
theorem everyInstructionCompletesInBinaryMode : Obligations.EveryInstructionCompletesInBinaryMode := by
  intro i s hbin
  obtain h | ⟨-, hd, -⟩ := exec_completes_or_refused i s
  · exact h
  · exact absurd (hd.symm.trans (decimalRefused_of_binary hbin)) (by decide)

/-! ### What a step runs -/

/-- Settles O5: the three bytes at PC decode to what the step fetches, or their first has no entry and they decode to
nothing. -/
theorem stepRunsTheDecodedInstruction : Obligations.StepRunsTheDecodedInstruction := by
  intro s i rest hdec
  obtain ⟨j, -, -, hstep, r, hj⟩ | ⟨hnone, -, -⟩ := step_cases s
  · cases hj.symm.trans hdec
    exact hstep
  · rw [decode_of_lookup_none hnone] at hdec
    cases hdec

/-- `disassemble` gives the text and the length of what the three bytes decode to (R82 to R84). -/
theorem disassemble_of_decode {s : State} {a : Word} {i : Instr} {rest : List Byte}
    (h : decode s.cfg.extNmos [s.peek a, s.peek (a + 1), s.peek (a + 2)] = .ok (i, rest)) :
    disassemble s a = .instr (instrText i) i.entry.length := by
  simp only [disassemble, h]

/-- Settles O58: step and disassembler decode the same instruction, whose entry's length the epilogue adds to PC. -/
theorem disassemblyLengthIsTheStepLength : Obligations.DisassemblyLengthIsTheStepLength := by
  intro s e hl
  obtain ⟨i, hi, -, hstep, r, hdec⟩ | ⟨hnone, -, -⟩ := step_cases s
  · cases hl.symm.trans hi
    refine ⟨i, instrText i, disassemble_of_decode hdec, hstep, rfl, fun t ht hpc => ?_⟩
    exact stepMovesPcPastTheInstruction i s t (hstep.symm.trans ht) hpc
  · cases hl.symm.trans hnone

end Sys2Proof.Machine
end

section
/-! SUPPORT. Which instructions load and which store, read off the mnemonic; what an executor that writes one register with
its Zero and Negative flags, or one byte of memory, leaves behind; and the statements of 40_load_store.md. -/

namespace Sys2Proof.Machine

/-! ### The shape of a load and of a store -/

/-- The loads, each with the register it writes (R100 to R102). -/
abbrev loads : List (Mnemonic × Reg8) := [(.LDA, .a), (.LDX, .x), (.LDY, .y)]

/-- The stores, each with the register it reads (R103 to R105). -/
abbrev stores : List (Mnemonic × Reg8) := [(.STA, .a), (.STX, .x), (.STY, .y)]

/-- `i` is the shared load into `r` (the shape `Shape.load`). -/
def IsLoad (i : Instr) (r : Reg8) : Prop :=
  ∃ src, i.operand.source? = some src ∧ (∀ s, stepCost i s = i.entry.baseCycles + readPenalty src s) ∧
    ∀ s, exec i s = load r i.entry src s

/-- `i` is the shared store from `r` (the shape `Shape.store`). -/
def IsStore (i : Instr) (r : Reg8) : Prop :=
  ∃ f, i.operand = .memory f ∧ (∀ s, stepCost i s = i.entry.baseCycles + writePenalty f s) ∧
    ∀ s, exec i s = store r i.entry f s

/-- The one split on the shape: a load of the list, a store of the list, or a mnemonic of neither. -/
theorem isLoad_or_isStore_or_other (i : Instr) :
    (∃ r, (i.entry.mnemonic, r) ∈ loads ∧ IsLoad i r) ∨ (∃ r, (i.entry.mnemonic, r) ∈ stores ∧ IsStore i r) ∨
      i.entry.mnemonic ∉ (loads ++ stores).map Prod.fst := by
  cases shape i with
  | load r src hm ho hc he => exact .inl ⟨r, hm, src, ho, hc, he⟩
  | store r f hm ho hc he => exact .inr (.inl ⟨r, hm, f, ho, hc, he⟩)
  | modifyMemory _ _ hm | modifyAccumulator _ hm | setRegister _ _ hm | writeFlag _ _ hm | pushRegister _ hm
    | branchOn _ _ _ hm | combine _ _ hm | compareRegister _ _ hm =>
    exact .inr (.inr (holds_of_mem hm (fun mn _ => mn ∉ (loads ++ stores).map Prod.fst) (by decide)))
  | addOperand _ hm | subOperand _ hm | bitTest _ hm | jump _ _ hm =>
    rw [hm]
    exact .inr (.inr (by decide))
  | jsr w hi =>
    subst hi
    exact .inr (.inr (show Mnemonic.JSR ∉ (loads ++ stores).map Prod.fst by decide))
  | txs hi | pla hi | plp hi | brk hi | rti hi | rts hi | nop hi =>
    subst hi
    exact .inr (.inr (by decide))

/-- The mnemonic of a load decides its shape and its register. -/
theorem isLoad_of_mem {i : Instr} {r : Reg8} (hm : (i.entry.mnemonic, r) ∈ loads) : IsLoad i r := by
  obtain ⟨r', hm', hl⟩ | ⟨r', hm', -⟩ | hn := isLoad_or_isStore_or_other i
  · cases List.inj_on_of_nodup_map (f := Prod.fst) (by decide) hm hm' rfl
    exact hl
  · exact absurd (List.mem_map_of_mem hm') (holds_of_mem hm (fun mn _ => mn ∉ stores.map Prod.fst) (by decide))
  · exact absurd (List.mem_map_of_mem (List.mem_append_left stores hm)) hn

/-- The mnemonic of a store decides its shape and its register. -/
theorem isStore_of_mem {i : Instr} {r : Reg8} (hm : (i.entry.mnemonic, r) ∈ stores) : IsStore i r := by
  obtain ⟨r', hm', -⟩ | ⟨r', hm', hs⟩ | hn := isLoad_or_isStore_or_other i
  · exact absurd (List.mem_map_of_mem hm') (holds_of_mem hm (fun mn _ => mn ∉ loads.map Prod.fst) (by decide))
  · cases List.inj_on_of_nodup_map (f := Prod.fst) (by decide) hm hm' rfl
    exact hs
  · exact absurd (List.mem_map_of_mem (List.mem_append_right loads hm)) hn

/-! ### What the two bodies leave behind -/

/-- A body that writes a register, which is not Flags, and lets Zero and Negative follow it: the register, the two flags,
PC and CYC are all that changes (R28, R79). -/
theorem endStep_setReg_setZN {i : Instr} {r : Reg8} {s : State} {n : Nat} (hr : r ≠ .flags)
    (hc : stepCost i s = i.entry.baseCycles + n) (v : Byte) :
    ∃ t, endStep i.entry n ((s.setReg r v).setFlags (setZN v s.flags)) = .next t ∧ t.reg r = v ∧
      ZNFollow v s.flags t.flags ∧ (∀ q, q ≠ r → q ≠ .flags → t.reg q = s.reg q) ∧ SameMemory s t ∧ Passes i s t := by
  refine ⟨_, rfl, ?_, setZN_follow v s.flags, fun q hq hf => ?_, fun b => ?_, endStep_passes hc ?_ ?_ ?_⟩
  · rw [endStep_reg, State.setFlags_reg _ _ hr, State.reg_setReg_same]
  · rw [endStep_reg, State.setFlags_reg _ _ hf, State.reg_setReg_ne _ _ hq]
  · rw [endStep_peek, State.setFlags_peek, State.setReg_peek]
  all_goals simp

/-- A body that writes one byte of memory: that byte, PC and CYC are all that changes (R43, R79). -/
theorem endStep_poke {i : Instr} {s : State} {n : Nat} (hwf : s.mem.wf = true)
    (hc : stepCost i s = i.entry.baseCycles + n) (a : Word) (v : Byte) :
    ∃ t, endStep i.entry n (s.poke a v) = .next t ∧ t.peek a = v ∧ (∀ b, b ≠ a → t.peek b = s.peek b) ∧
      (∀ q, t.reg q = s.reg q) ∧ Passes i s t := by
  refine ⟨_, rfl, ?_, fun b hb => ?_, fun q => ?_, endStep_passes hc rfl rfl rfl⟩
  · rw [endStep_peek, State.peek_poke_same hwf]
  · rw [endStep_peek, State.peek_poke_ne s v hb]
  · rw [endStep_reg, State.poke_reg]

/-! ### The statements -/

/-- Settles O21: the mnemonic gives the shared load, whose body writes one register with Zero and Negative. -/
theorem loadsPutTheOperandInTheRegister : Obligations.LoadsPutTheOperandInTheRegister := by
  intro i r s hm
  obtain ⟨src, ho, hc, he⟩ := isLoad_of_mem hm
  have hr : r ≠ .flags := holds_of_mem hm (fun _ q => q ≠ .flags) (by decide)
  obtain ⟨t, ht, heffect⟩ := endStep_setReg_setZN hr (hc s) (sourceByte src s)
  exact ⟨src, t, ho, (he s).trans ht, heffect⟩

/-- Settles O22: the mnemonic gives the shared store, whose body writes one byte at the effective address. -/
theorem storesWriteTheRegisterAtTheAddress : Obligations.StoresWriteTheRegisterAtTheAddress := by
  intro i r s hwf hm
  obtain ⟨f, ho, hc, he⟩ := isStore_of_mem hm
  obtain ⟨t, ht, heffect⟩ := endStep_poke hwf (hc s) (effectiveAddress f s) (s.reg r)
  exact ⟨f, t, ho, (he s).trans ht, heffect⟩

end Sys2Proof.Machine
end

section
/-! SUPPORT. Which instructions modify a byte of memory and which set a register, read off the mnemonic; what a
read-modify-write leaves behind; and the statements of 41_inc_dec.md. -/

namespace Sys2Proof.Machine

/-! ### The shape of a read-modify-write and of a register write -/

/-- The instructions that modify a byte, each with its byte function (R110, R111, R180 to R183). -/
abbrev byteModifiers : List (Mnemonic × (Byte → Byte → Byte × Byte)) :=
  [(.INC, incByte), (.DEC, decByte), (.ASL, aslByte), (.LSR, lsrByte), (.ROL, rolByte), (.ROR, rorByte)]

/-- The instructions that set a register, each with the register and its new value (R112 to R115, R120 to R124). -/
abbrev registerSetters : List (Mnemonic × Reg8 × (State → Byte)) :=
  [(.INX, .x, fun s => s.x + 1), (.INY, .y, fun s => s.y + 1), (.DEX, .x, fun s => s.x - 1), (.DEY, .y, fun s => s.y - 1),
   (.TAX, .x, State.a), (.TAY, .y, State.a), (.TXA, .a, State.x), (.TYA, .a, State.y), (.TSX, .x, State.sp)]

/-- `i` is the shared read-modify-write by `fn` on memory (the shape `Shape.modifyMemory`). -/
def ModifiesMemory (i : Instr) (fn : Byte → Byte → Byte × Byte) : Prop :=
  ∃ f, i.operand = .memory f ∧ (∀ s, stepCost i s = i.entry.baseCycles + writePenalty f s) ∧
    ∀ s, exec i s = modifyMemory fn i.entry f s

/-- `i` is the shared write of `v` to the register `r` (the shape `Shape.setRegister`). -/
def SetsRegister (i : Instr) (r : Reg8) (v : State → Byte) : Prop :=
  (∀ s, stepCost i s = i.entry.baseCycles + 0) ∧ ∀ s, exec i s = setRegister r (v s) i.entry s

/-- `i` is the accumulator form of a shift (R180 to R183). -/
abbrev IsAccumulatorShift (i : Instr) : Prop :=
  i.entry.mnemonic ∈ [Mnemonic.ASL, .LSR, .ROL, .ROR] ∧ i.operand = .implicit

/-- The one split on the shape: a read-modify-write on memory or on the accumulator, a register write, or a mnemonic of
none of them. -/
theorem byteModifier_or_registerSetter_or_other (i : Instr) :
    (∃ fn, (i.entry.mnemonic, fn) ∈ byteModifiers ∧ ModifiesMemory i fn) ∨ IsAccumulatorShift i ∨
      (∃ r v, (i.entry.mnemonic, r, v) ∈ registerSetters ∧ SetsRegister i r v) ∨
      i.entry.mnemonic ∉ byteModifiers.map Prod.fst ++ registerSetters.map Prod.fst := by
  cases shape i with
  | modifyMemory fn f hm ho hc he => exact .inl ⟨fn, hm, f, ho, hc, he⟩
  | modifyAccumulator fn hm ho => exact .inr (.inl ⟨List.mem_map_of_mem (f := Prod.fst) hm, ho⟩)
  | setRegister r v hm hc he => exact .inr (.inr (.inl ⟨r, v, hm, hc, he⟩))
  | load _ _ hm | store _ _ hm | writeFlag _ _ hm | pushRegister _ hm | branchOn _ _ _ hm | combine _ _ hm
    | compareRegister _ _ hm =>
    exact .inr (.inr (.inr (holds_of_mem hm
      (fun mn _ => mn ∉ byteModifiers.map Prod.fst ++ registerSetters.map Prod.fst) (by decide))))
  | addOperand _ hm | subOperand _ hm | bitTest _ hm | jump _ _ hm =>
    rw [hm]
    exact .inr (.inr (.inr (by decide)))
  | jsr w hi =>
    subst hi
    exact .inr (.inr (.inr
      (show Mnemonic.JSR ∉ byteModifiers.map Prod.fst ++ registerSetters.map Prod.fst by decide)))
  | txs hi | pla hi | plp hi | brk hi | rti hi | rts hi | nop hi =>
    subst hi
    exact .inr (.inr (.inr (by decide)))

/-- The mnemonic of a byte modifier decides its byte function; all but the accumulator forms modify memory. -/
theorem modifiesMemory_of_mem {i : Instr} {fn : Byte → Byte → Byte × Byte}
    (hm : (i.entry.mnemonic, fn) ∈ byteModifiers) (hacc : ¬ IsAccumulatorShift i) : ModifiesMemory i fn := by
  obtain ⟨fn', hm', hmod⟩ | h | ⟨r, v, hm', -⟩ | hn := byteModifier_or_registerSetter_or_other i
  · cases List.inj_on_of_nodup_map (f := Prod.fst) (by decide) hm hm' rfl
    exact hmod
  · exact absurd h hacc
  · exact absurd (List.mem_map_of_mem hm')
      (holds_of_mem hm (fun mn _ => mn ∉ registerSetters.map Prod.fst) (by decide))
  · exact absurd (List.mem_append_left _ (List.mem_map_of_mem hm)) hn

/-- The mnemonic of a register setter decides its register and its value. -/
theorem setsRegister_of_mem {i : Instr} {r : Reg8} {v : State → Byte}
    (hm : (i.entry.mnemonic, r, v) ∈ registerSetters) : SetsRegister i r v := by
  have hno : i.entry.mnemonic ∉ byteModifiers.map Prod.fst :=
    holds_of_mem hm (fun mn _ => mn ∉ byteModifiers.map Prod.fst) (by decide)
  obtain ⟨fn, hm', -⟩ | ⟨hshift, -⟩ | ⟨r', v', hm', hset⟩ | hn := byteModifier_or_registerSetter_or_other i
  · exact absurd (List.mem_map_of_mem hm') hno
  · exact absurd (List.mem_cons_of_mem _ (List.mem_cons_of_mem _ hshift)) hno
  · cases List.inj_on_of_nodup_map (f := Prod.fst) (by decide) hm hm' rfl
    exact hset
  · exact absurd (List.mem_append_right _ (List.mem_map_of_mem hm)) hn

/-! ### Plus 1 and minus 1 modulo 256 -/

theorem toNat_sub_one (v : Byte) : (v - 1).toNat = (v.toNat + 255) % 256 := by
  rw [Nat.add_comm]
  exact BitVec.toNat_sub v 1

/-- INC and DEC are byte modifiers that add 1 or 255 modulo 256 and leave the flags (R110, R111). -/
theorem exists_byteModifier_of_incDec {mn : Mnemonic} {n : Nat} (hm : (mn, n) ∈ [(Mnemonic.INC, 1), (.DEC, 255)]) :
    ∃ fn, (mn, fn) ∈ byteModifiers ∧ ∀ v g, (fn v g).1.toNat = (v.toNat + n) % 256 ∧ (fn v g).2 = g := by
  simp only [List.mem_cons, Prod.mk.injEq, List.not_mem_nil, or_false] at hm
  obtain ⟨rfl, rfl⟩ | ⟨rfl, rfl⟩ := hm
  · exact ⟨incByte, .head _, fun v _ => ⟨BitVec.toNat_add v 1, rfl⟩⟩
  · exact ⟨decByte, .tail _ (.head _), fun v _ => ⟨toNat_sub_one v, rfl⟩⟩

/-- INX, INY, DEX and DEY are register setters that add 1 or 255 to their register modulo 256 (R112 to R115). -/
theorem exists_registerSetter_of_step {mn : Mnemonic} {r : Reg8} {n : Nat}
    (hm : (mn, r, n) ∈ [(Mnemonic.INX, Reg8.x, 1), (.INY, .y, 1), (.DEX, .x, 255), (.DEY, .y, 255)]) :
    ∃ v, (mn, r, v) ∈ registerSetters ∧ ∀ s : State, (v s).toNat = ((s.reg r).toNat + n) % 256 := by
  simp only [List.mem_cons, Prod.mk.injEq, List.not_mem_nil, or_false] at hm
  obtain ⟨rfl, rfl, rfl⟩ | ⟨rfl, rfl, rfl⟩ | ⟨rfl, rfl, rfl⟩ | ⟨rfl, rfl, rfl⟩ := hm
  · exact ⟨_, .head _, fun s => BitVec.toNat_add s.x 1⟩
  · exact ⟨_, .tail _ (.head _), fun s => BitVec.toNat_add s.y 1⟩
  · exact ⟨_, .tail _ (.tail _ (.head _)), fun s => toNat_sub_one s.x⟩
  · exact ⟨_, .tail _ (.tail _ (.tail _ (.head _))), fun s => toNat_sub_one s.y⟩

/-! ### What a read-modify-write leaves behind -/

/-- A body that writes one byte of memory and Flags: they, PC and CYC are all that changes (R43, R63, R79). -/
theorem endStep_poke_setFlags {i : Instr} {s : State} {n : Nat} (hwf : s.mem.wf = true)
    (hc : stepCost i s = i.entry.baseCycles + n) (a : Word) (v g : Byte) :
    ∃ t, endStep i.entry n ((s.poke a v).setFlags g) = .next t ∧ t.peek a = v ∧ (∀ b, b ≠ a → t.peek b = s.peek b) ∧
      t.flags = g ∧ (∀ q, q ≠ .flags → t.reg q = s.reg q) ∧ Passes i s t := by
  refine ⟨_, rfl, ?_, fun b hb => ?_, rfl, fun q hq => ?_, endStep_passes hc rfl rfl rfl⟩
  · rw [endStep_peek, State.setFlags_peek, State.peek_poke_same hwf]
  · rw [endStep_peek, State.setFlags_peek, State.peek_poke_ne s v hb]
  · rw [endStep_reg, State.setFlags_reg _ _ hq, State.poke_reg]

/-! ### The statements -/

/-- Settles O23: the mnemonic gives the shared read-modify-write, whose byte function adds 1 or 255 and keeps the flags. -/
theorem incAndDecChangeTheMemoryByte : Obligations.IncAndDecChangeTheMemoryByte := by
  intro i n s hwf hm
  obtain ⟨fn, hfn, hout⟩ := exists_byteModifier_of_incDec hm
  have hshift : i.entry.mnemonic ∉ [Mnemonic.ASL, .LSR, .ROL, .ROR] :=
    holds_of_mem hm (fun mn _ => mn ∉ [Mnemonic.ASL, .LSR, .ROL, .ROR]) (by decide)
  obtain ⟨f, ho, hc, he⟩ := modifiesMemory_of_mem hfn fun hacc => hshift hacc.1
  obtain ⟨hv, hkeep⟩ := hout (s.peek (effectiveAddress f s)) s.flags
  obtain ⟨t, ht, hsame, hother, hflags, hreg, hpass⟩ := endStep_poke_setFlags hwf (hc s) (effectiveAddress f s) _ _
  refine ⟨f, _, t, ho, hv, (he s).trans ht, hsame, hother, ?_, hreg, hpass⟩
  rw [hflags, hkeep]
  exact setZN_follow _ _

/-- Settles O24: the mnemonic gives the shared register write, whose value is the register plus 1 or 255. -/
theorem registerIncrementsWrap : Obligations.RegisterIncrementsWrap := by
  intro i r n s hm
  obtain ⟨v, hset, hv⟩ := exists_registerSetter_of_step hm
  have hr : r ≠ .flags := holds_of_mem hm (fun _ p => p.1 ≠ .flags) (by decide)
  obtain ⟨hc, he⟩ := setsRegister_of_mem hset
  obtain ⟨t, ht, hreg, hzn, hframe⟩ := endStep_setReg_setZN hr (hc s) (v s)
  refine ⟨t, (he s).trans ht, ?_, ?_, hframe⟩
  · rw [hreg, hv]
  · rw [hreg]
    exact hzn

end Sys2Proof.Machine
end

section
/-! SUPPORT. The transfers among the register setters, what a register write without Zero and Negative leaves behind, and the
statements of 42_transfer.md. -/

namespace Sys2Proof.Machine

/-- The transfers that set Zero and Negative, each with its source and its destination (R120 to R124). -/
abbrev registerTransfers : List (Mnemonic × Reg8 × Reg8) :=
  [(.TAX, .a, .x), (.TAY, .a, .y), (.TXA, .x, .a), (.TYA, .y, .a), (.TSX, .sp, .x)]

/-- A transfer is a register setter of its destination whose value is its source (R120 to R124). -/
theorem registerSetter_of_transfer {mn : Mnemonic} {src dst : Reg8} (hm : (mn, src, dst) ∈ registerTransfers) :
    (mn, dst, fun s => s.reg src) ∈ registerSetters := by
  simp only [List.mem_cons, Prod.mk.injEq, List.not_mem_nil, or_false] at hm
  obtain ⟨rfl, rfl, rfl⟩ | ⟨rfl, rfl, rfl⟩ | ⟨rfl, rfl, rfl⟩ | ⟨rfl, rfl, rfl⟩ | ⟨rfl, rfl, rfl⟩ := hm
  · exact .tail _ (.tail _ (.tail _ (.tail _ (.head _))))
  · exact .tail _ (.tail _ (.tail _ (.tail _ (.tail _ (.head _)))))
  · exact .tail _ (.tail _ (.tail _ (.tail _ (.tail _ (.tail _ (.head _))))))
  · exact .tail _ (.tail _ (.tail _ (.tail _ (.tail _ (.tail _ (.tail _ (.head _)))))))
  · exact .tail _ (.tail _ (.tail _ (.tail _ (.tail _ (.tail _ (.tail _ (.tail _ (.head _))))))))

/-- A body that writes one register alone: the register, PC and CYC are all that changes (R79). -/
theorem endStep_setReg {i : Instr} {s : State} {n : Nat} (hc : stepCost i s = i.entry.baseCycles + n) (r : Reg8)
    (v : Byte) : ∃ t, endStep i.entry n (s.setReg r v) = .next t ∧ t.reg r = v ∧ (∀ q, q ≠ r → t.reg q = s.reg q) ∧
      SameMemory s t ∧ Passes i s t := by
  refine ⟨_, rfl, ?_, fun q hq => ?_, fun b => ?_, endStep_passes hc ?_ ?_ ?_⟩
  · rw [endStep_reg, State.reg_setReg_same]
  · rw [endStep_reg, State.reg_setReg_ne _ _ hq]
  · rw [endStep_peek, State.setReg_peek]
  all_goals simp

/-! ### The statements -/

/-- Settles O25: the mnemonic gives the shared register write, whose value is the source register. -/
theorem transfersCopyTheRegister : Obligations.TransfersCopyTheRegister := by
  intro i src dst s hm
  have hdst : dst ≠ .flags := holds_of_mem hm (fun _ p => p.2 ≠ .flags) (by decide)
  obtain ⟨hc, he⟩ := setsRegister_of_mem (registerSetter_of_transfer hm)
  obtain ⟨t, ht, heffect⟩ := endStep_setReg_setZN hdst (hc s) (s.reg src)
  exact ⟨t, (he s).trans ht, heffect⟩

/-- Settles O26: the body of TXS writes SP alone, so Flags is among the registers that stay. -/
theorem txsSetsTheStackPointerAlone : Obligations.TxsSetsTheStackPointerAlone :=
  fun s => endStep_setReg (stepCost_none (i := .txs) rfl s) .sp s.x

end Sys2Proof.Machine
end

section
/-! SUPPORT. Which instructions write one flag, read off the mnemonic; what a body that writes Flags alone leaves behind; and
the statement of 43_flag_ops.md. -/

namespace Sys2Proof.Machine

/-- The flag instructions, each with the bit it writes and the value it gives it (R130 to R136). -/
abbrev flagInstructions : List (Mnemonic × Nat × Bool) :=
  [(.CLC, 0, false), (.SEC, 0, true), (.CLI, 2, false), (.SEI, 2, true), (.CLD, 3, false), (.SED, 3, true),
   (.CLV, 6, false)]

/-- The flag instructions with the mask in the place of the bit number, as `Shape.writeFlag` lists them. -/
abbrev maskedFlagInstructions : List (Mnemonic × Byte × Bool) :=
  flagInstructions.map fun p => (p.1, BitVec.twoPow 8 p.2.1, p.2.2)

/-- `i` is the shared write of `v` to the flags of the mask `m` (the shape `Shape.writeFlag`). -/
def WritesFlag (i : Instr) (m : Byte) (v : Bool) : Prop :=
  (∀ s, stepCost i s = i.entry.baseCycles + 0) ∧ ∀ s, exec i s = writeFlag m v i.entry s

/-- The one split on the shape: a flag instruction of the list, or a mnemonic that is not in it. -/
theorem writesFlag_or_other (i : Instr) :
    (∃ m v, (i.entry.mnemonic, m, v) ∈ maskedFlagInstructions ∧ WritesFlag i m v) ∨
      i.entry.mnemonic ∉ maskedFlagInstructions.map Prod.fst := by
  cases shape i with
  | writeFlag m v hm hc he => exact .inl ⟨m, v, hm, hc, he⟩
  | load _ _ hm | store _ _ hm | modifyMemory _ _ hm | modifyAccumulator _ hm | setRegister _ _ hm | pushRegister _ hm
    | branchOn _ _ _ hm | combine _ _ hm | compareRegister _ _ hm =>
    exact .inr (holds_of_mem hm (fun mn _ => mn ∉ maskedFlagInstructions.map Prod.fst) (by decide))
  | addOperand _ hm | subOperand _ hm | bitTest _ hm | jump _ _ hm =>
    rw [hm]
    exact .inr (by decide)
  | jsr w hi =>
    subst hi
    exact .inr (show Mnemonic.JSR ∉ maskedFlagInstructions.map Prod.fst by decide)
  | txs hi | pla hi | plp hi | brk hi | rti hi | rts hi | nop hi =>
    subst hi
    exact .inr (by decide)

/-- The mnemonic of a flag instruction decides its bit and its value. -/
theorem writesFlag_of_mem {i : Instr} {k : Nat} {v : Bool} (hm : (i.entry.mnemonic, k, v) ∈ flagInstructions) :
    WritesFlag i (BitVec.twoPow 8 k) v := by
  have hmask : (i.entry.mnemonic, BitVec.twoPow 8 k, v) ∈ maskedFlagInstructions := List.mem_map_of_mem hm
  obtain ⟨m', v', hm', hw⟩ | hn := writesFlag_or_other i
  · cases List.inj_on_of_nodup_map (f := Prod.fst) (by decide) hmask hm' rfl
    exact hw
  · exact absurd (List.mem_map_of_mem hmask) hn

/-- `FlagSet` with the mask of one bit writes that bit and no other. -/
theorem getLsbD_flagSet_twoPow {k : Nat} (hk : k < 8) (v : Bool) (f : Byte) (j : Nat) :
    (flagSet (BitVec.twoPow 8 k) v f).getLsbD j = if k = j then v else f.getLsbD j := by
  rw [getLsbD_flagSet, BitVec.getLsbD_twoPow]
  simp [hk]

/-- A body that writes Flags alone: Flags, PC and CYC are all that changes (R79). -/
theorem endStep_setFlags {i : Instr} {s : State} {n : Nat} (hc : stepCost i s = i.entry.baseCycles + n) (g : Byte) :
    ∃ t, endStep i.entry n (s.setFlags g) = .next t ∧ t.flags = g ∧ (∀ q, q ≠ .flags → t.reg q = s.reg q) ∧
      SameMemory s t ∧ Passes i s t := by
  refine ⟨_, rfl, rfl, fun q hq => ?_, fun b => ?_, endStep_passes hc rfl rfl rfl⟩
  · rw [endStep_reg, State.setFlags_reg _ _ hq]
  · rw [endStep_peek, State.setFlags_peek]

/-- Settles O27: the mnemonic gives the shared flag write, whose mask is the one bit. -/
theorem flagInstructionsWriteOneBit : Obligations.FlagInstructionsWriteOneBit := by
  intro i k v s hm
  have hk : k < 8 := holds_of_mem hm (fun _ p => p.1 < 8) (by decide)
  obtain ⟨hc, he⟩ := writesFlag_of_mem hm
  obtain ⟨t, ht, hflags, hframe⟩ := endStep_setFlags (hc s) (flagSet (BitVec.twoPow 8 k) v s.flags)
  refine ⟨t, (he s).trans ht, ?_, fun j hj => ?_, hframe⟩
  · rw [hflags, getLsbD_flagSet_twoPow hk, if_pos rfl]
  · rw [hflags, getLsbD_flagSet_twoPow hk, if_neg hj.symm]

end Sys2Proof.Machine
end

section
/-! SUPPORT. Which instructions push a register, read off the mnemonic; what a push leaves behind; a pull as the state that the
bodies of PLA and PLP start from; and the statements of 44_stack.md. -/

namespace Sys2Proof.Machine

/-! ### The shape of a push -/

/-- The instructions that push a register, each with the register (R140, R141). -/
abbrev registerPushes : List (Mnemonic × Reg8) := [(.PHA, .a), (.PHP, .flags)]

/-- `i` is the shared push of `r` (the shape `Shape.pushRegister`). -/
def PushesRegister (i : Instr) (r : Reg8) : Prop :=
  (∀ s, stepCost i s = i.entry.baseCycles + 0) ∧ ∀ s, exec i s = pushRegister r i.entry s

/-- The one split on the shape: a push of the list, or a mnemonic that is not in it. -/
theorem pushesRegister_or_other (i : Instr) :
    (∃ r, (i.entry.mnemonic, r) ∈ registerPushes ∧ PushesRegister i r) ∨
      i.entry.mnemonic ∉ registerPushes.map Prod.fst := by
  cases shape i with
  | pushRegister r hm hc he => exact .inl ⟨r, hm, hc, he⟩
  | load _ _ hm | store _ _ hm | modifyMemory _ _ hm | modifyAccumulator _ hm | setRegister _ _ hm | writeFlag _ _ hm
    | branchOn _ _ _ hm | combine _ _ hm | compareRegister _ _ hm =>
    exact .inr (holds_of_mem hm (fun mn _ => mn ∉ registerPushes.map Prod.fst) (by decide))
  | addOperand _ hm | subOperand _ hm | bitTest _ hm | jump _ _ hm =>
    rw [hm]
    exact .inr (by decide)
  | jsr w hi =>
    subst hi
    exact .inr (show Mnemonic.JSR ∉ registerPushes.map Prod.fst by decide)
  | txs hi | pla hi | plp hi | brk hi | rti hi | rts hi | nop hi =>
    subst hi
    exact .inr (by decide)

/-- The mnemonic of a push decides its shape and its register. -/
theorem pushesRegister_of_mem {i : Instr} {r : Reg8} (hm : (i.entry.mnemonic, r) ∈ registerPushes) :
    PushesRegister i r := by
  obtain ⟨r', hm', hp⟩ | hn := pushesRegister_or_other i
  · cases List.inj_on_of_nodup_map (f := Prod.fst) (by decide) hm hm' rfl
    exact hp
  · exact absurd (List.mem_map_of_mem hm) hn

/-! ### What a push and a pull leave behind -/

/-- A body that pushes one byte: the byte at the stack address, SP, PC and CYC are all that changes (R64, R79). -/
theorem endStep_push {i : Instr} {s : State} {n : Nat} (hwf : s.mem.wf = true)
    (hc : stepCost i s = i.entry.baseCycles + n) (v : Byte) :
    ∃ t, endStep i.entry n (s.push v) = .next t ∧ t.peek (stackAddr s.sp) = v ∧
      (∀ b, b ≠ stackAddr s.sp → t.peek b = s.peek b) ∧ t.sp.toNat = (s.sp.toNat + 255) % 256 ∧
      (∀ q, q ≠ .sp → t.reg q = s.reg q) ∧ Passes i s t := by
  refine ⟨_, rfl, ?_, fun b hb => ?_, toNat_sub_one s.sp, fun q hq => ?_, endStep_passes hc rfl rfl rfl⟩
  · rw [endStep_peek, State.peek_push_same hwf]
  · rw [endStep_peek, State.peek_push_ne s v hb]
  · rw [endStep_reg, State.push_reg s v hq]

/-- A pull leaves PC, CYC and the parameters, so the epilogue of an instruction without a penalty may be counted from the
state after it (R65, R79). -/
theorem passes_of_passes_pull {i : Instr} {s t : State} (hp : i.entry.penalty = .none) (h : Passes i s.pull t) :
    Passes i s t := by
  obtain ⟨hpc, hcyc, hcfg⟩ := h
  rw [stepCost_none hp] at hcyc
  refine ⟨hpc, ?_, hcfg⟩
  rw [stepCost_none hp]
  exact hcyc

/-- A pull adds 1 to SP modulo 256 (R65). -/
theorem toNat_pull_sp (s : State) : s.pull.sp.toNat = (s.sp.toNat + 1) % 256 := BitVec.toNat_add s.sp 1

/-! ### The statements -/

/-- Settles O28: the mnemonic gives the shared push, whose body stores the register's byte and moves SP. -/
theorem pushesStoreTheByteBelowTheStack : Obligations.PushesStoreTheByteBelowTheStack := by
  intro i r s hwf hm
  obtain ⟨hc, he⟩ := pushesRegister_of_mem hm
  obtain ⟨t, ht, heffect⟩ := endStep_push hwf (hc s) (s.reg r)
  exact ⟨t, (he s).trans ht, heffect⟩

/-- Settles O29: after the pull, PLA is a register write of A with Zero and Negative, which keeps the new SP. -/
theorem plaPullsTheAccumulator : Obligations.PlaPullsTheAccumulator := by
  intro s
  obtain ⟨t, ht, (ha : t.a = s.pulled), hzn, hreg, hmem, hpass⟩ :=
    endStep_setReg_setZN (i := .pla) (r := .a) (by decide) (stepCost_none rfl s.pull) s.pulled
  have hsp : t.sp = s.pull.sp := hreg .sp (by decide) (by decide)
  have hx : t.x = s.x := hreg .x (by decide) (by decide)
  have hy : t.y = s.y := hreg .y (by decide) (by decide)
  refine ⟨t, ht, ?_, ?_, ?_, hx, hy, hmem, passes_of_passes_pull rfl hpass⟩
  · rw [hsp, toNat_pull_sp]
  · rw [ha, hsp]
    exact State.pulled_eq s
  · rw [ha]
    exact hzn

/-- Settles O30: after the pull, PLP writes Flags alone, with the pulled byte whose bit 4 is low. -/
theorem plpPullsTheFlagsWithBreakLow : Obligations.PlpPullsTheFlagsWithBreakLow := by
  intro s
  obtain ⟨t, ht, hflags, hreg, hmem, hpass⟩ :=
    endStep_setFlags (i := .plp) (stepCost_none rfl s.pull) (restoredFlags s.pulled)
  have hsp : t.sp = s.pull.sp := hreg .sp (by decide)
  have ha : t.a = s.a := hreg .a (by decide)
  have hx : t.x = s.x := hreg .x (by decide)
  have hy : t.y = s.y := hreg .y (by decide)
  refine ⟨t, ht, ?_, ?_, fun k hk => ?_, ha, hx, hy, hmem, passes_of_passes_pull rfl hpass⟩
  · rw [hsp, toNat_pull_sp]
  · rw [hflags, getLsbD_restoredFlags, if_pos rfl]
  · rw [hflags, getLsbD_restoredFlags, if_neg hk, hsp, State.pulled_eq]
    rfl

end Sys2Proof.Machine
end

section
/-! SUPPORT. Which instructions branch, read off the flag they test; the flag of one bit; what a taken branch costs; and the
statement of 45_branch.md. -/

namespace Sys2Proof.Machine

/-- `i` is the shared branch on the flags of the mask `m` at the value `v`, in a row of two bytes and two cycles (R72,
R150). -/
def BranchesOn (i : Instr) (m : Byte) (v : Bool) : Prop :=
  ∃ d, i.operand = .relative d ∧ i.entry.length = 2 ∧ i.entry.baseCycles = 2 ∧
    ∀ s, exec i s = branchOn m v i.entry d s

/-- An instruction that tests a flag is one of the eight branches, on that flag (R151 to R158). -/
theorem branchesOn_of_branchTest {i : Instr} {m : Byte} {v : Bool}
    (ht : branchTest i.entry.mnemonic = some (m, v)) : BranchesOn i m v := by
  cases i with
  | bpl d | bmi d | bvc d | bvs d | bcc d | bcs d | bne d | beq d =>
    cases ht
    exact ⟨d, rfl, rfl, rfl, fun _ => rfl⟩
  | _ => cases ht

/-- `FlagGet` with the mask of one bit reads that bit (R31). -/
theorem flagGet_twoPow (k : Nat) (f : Byte) : flagGet (BitVec.twoPow 8 k) f = f.getLsbD k := by
  have hk : f.getLsbD k = true → k < 8 := BitVec.lt_of_getLsbD
  rw [Bool.eq_iff_iff, flagGet_eq_true_iff]
  simpa [BitVec.getLsbD_twoPow] using hk

/-- A taken branch adds 1 cycle, or 2 where base and target differ in their high byte (R60, R150). -/
theorem takenPenalty_eq (d : Byte) (s : State) :
    takenPenalty d s = if hi (branchBase s) = hi (branchTarget d s) then 1 else 2 := by
  unfold takenPenalty pageCross
  by_cases h : hi (branchBase s) = hi (branchTarget d s)
  · rw [if_pos h, bne_eq_false_iff_eq.mpr h]
    rfl
  · rw [if_neg h, bne_iff_ne.mpr h]
    rfl

/-- Settles O33: the mnemonic gives the flag tested, and so the shared branch, which transfers or passes. -/
theorem branchesFollowTheirFlag : Obligations.BranchesFollowTheirFlag := by
  intro i k v s hm
  have ht : branchTest i.entry.mnemonic = some (BitVec.twoPow 8 k, v) :=
    holds_of_mem hm (fun mn p => branchTest mn = some (BitVec.twoPow 8 p.1, p.2)) (by decide)
  obtain ⟨d, ho, hlen, hbase, he⟩ := branchesOn_of_branchTest ht
  obtain ⟨hf, hb⟩ | ⟨hf, hb⟩ := branchOn_cases (BitVec.twoPow 8 k) v i.entry d s
  all_goals rw [flagGet_twoPow] at hf
  · have hcost : i.entry.baseCycles + takenPenalty d s =
        if hi (branchBase s) = hi (branchTarget d s) then 3 else 4 := by
      rw [hbase, takenPenalty_eq]
      split <;> rfl
    exact ⟨d, _, ho, (he s).trans hb, endStep_reg s _ _, endStep_peek s _ _, rfl,
      fun _ => ⟨rfl, congrArg (fun n => (s.cyc + n) % 2 ^ s.cfg.cycWidth) hcost⟩, fun hn => absurd hf hn⟩
  · have hpc : s.nextPc i.entry.length = s.pc + 2 := by rw [hlen]; rfl
    have hcost : i.entry.baseCycles + 0 = 2 := hbase
    exact ⟨d, _, ho, (he s).trans hb, endStep_reg s _ _, endStep_peek s _ _, rfl, fun h => absurd h hf,
      fun _ => ⟨hpc, congrArg (fun n => (s.cyc + n) % 2 ^ s.cfg.cycWidth) hcost⟩⟩

end Sys2Proof.Machine
end

section
/-! SUPPORT. What a 16-bit push and the trap entry leave in memory, byte by byte, and the statement of 46_break.md. -/

namespace Sys2Proof.Machine

/-! ### The bytes of a 16-bit push -/

/-- A value of SP and one a nonzero distance below it modulo 256 name different stack bytes (R24). -/
theorem stackAddr_ne_stackAddr_sub (sp : Byte) {d : Byte} (hd : d ≠ 0) : stackAddr sp ≠ stackAddr (sp - d) := by
  intro h
  have hsp : sp = sp - d := stackAddr_inj h
  bv_omega

/-- No stack byte lies outside page 0x01 (R24). -/
theorem ne_stackAddr_of_hi_ne {b : Word} (hb : hi b ≠ 0x01) (sp : Byte) : b ≠ stackAddr sp :=
  fun h => hb (h ▸ hi_stackAddr sp)

/-- The high byte of a 16-bit push lies at 0x0100 + SP: the second push is one below it (R66). -/
theorem State.peek_push16_hi {s : State} (hwf : s.mem.wf = true) (w : Word) :
    (s.push16 w).peek (stackAddr s.sp) = hi w :=
  (State.peek_push_ne (s.push (hi w)) _ (stackAddr_ne_stackAddr_sub s.sp (by decide))).trans
    (State.peek_push_same hwf _)

/-- The low byte of a 16-bit push lies one below the high byte (R66). -/
theorem State.peek_push16_lo {s : State} (hwf : s.mem.wf = true) (w : Word) :
    (s.push16 w).peek (stackAddr (s.sp - 1)) = lo w :=
  State.peek_push_same (State.wf_push hwf _) _

/-- A 16-bit push writes no other byte (R66). -/
theorem State.peek_push16_ne (s : State) (w : Word) {b : Word} (h0 : b ≠ stackAddr s.sp)
    (h1 : b ≠ stackAddr (s.sp - 1)) : (s.push16 w).peek b = s.peek b :=
  (State.peek_push_ne (s.push (hi w)) _ h1).trans (State.peek_push_ne s _ h0)

/-- A 16-bit push moves SP down by 2 (R66). -/
theorem State.push16_sp_eq (s : State) (w : Word) : (s.push16 w).sp = s.sp - 2 := by
  rw [State.push16_sp]
  bv_omega

/-! ### The bytes of the trap entry -/

/-- The three pushes move SP down by 3 (R309). -/
theorem takeTrap_sp (s : State) : (takeTrap s).sp = s.sp - 3 := by
  obtain ⟨-, -, -, hsp, -⟩ := takeTrap_fields s
  rw [hsp]
  bv_omega

/-- Memory after the trap entry is memory after its pushes: Flags and PC are written last (R160). -/
theorem peek_takeTrap (s : State) (b : Word) : (takeTrap s).peek b =
    ((s.push16 (s.pc + s.cfg.brkPushOffset.toWord)).push (pushedBreakFlags s.flags)).peek b := by
  obtain ⟨-, -, -, -, -, -, -, -, hmem⟩ := takeTrap_fields s
  rw [State.peek_def, hmem, ← State.peek_def]

/-- The flags byte lies at 0x0100 + SP - 2 (R160, R309). -/
theorem peek_takeTrap_flags {s : State} (hwf : s.mem.wf = true) :
    (takeTrap s).peek (stackAddr (s.sp - 2)) = pushedBreakFlags s.flags := by
  rw [← State.push16_sp_eq s (s.pc + s.cfg.brkPushOffset.toWord), peek_takeTrap]
  exact State.peek_push_same (State.wf_push16 hwf _) _

/-- Off the flags byte, the trap entry is the 16-bit push of the return address (R160). -/
theorem peek_takeTrap_of_ne_flags (s : State) {b : Word} (hb : b ≠ stackAddr (s.sp - 2)) :
    (takeTrap s).peek b = (s.push16 (s.pc + s.cfg.brkPushOffset.toWord)).peek b := by
  rw [← State.push16_sp_eq s (s.pc + s.cfg.brkPushOffset.toWord)] at hb
  rw [peek_takeTrap, State.peek_push_ne _ _ hb]

/-- The high byte of the return address lies at 0x0100 + SP (R309). -/
theorem peek_takeTrap_hi {s : State} (hwf : s.mem.wf = true) :
    (takeTrap s).peek (stackAddr s.sp) = hi (s.pc + s.cfg.brkPushOffset.toWord) := by
  rw [peek_takeTrap_of_ne_flags s (stackAddr_ne_stackAddr_sub s.sp (by decide)), State.peek_push16_hi hwf]

/-- The low byte of the return address lies one below the high byte (R309). -/
theorem peek_takeTrap_lo {s : State} (hwf : s.mem.wf = true) :
    (takeTrap s).peek (stackAddr (s.sp - 1)) = lo (s.pc + s.cfg.brkPushOffset.toWord) := by
  have hsp : s.sp - 2 = s.sp - 1 - 1 := by bv_omega
  have hne : stackAddr (s.sp - 1) ≠ stackAddr (s.sp - 2) := hsp ▸ stackAddr_ne_stackAddr_sub (s.sp - 1) (by decide)
  rw [peek_takeTrap_of_ne_flags s hne, State.peek_push16_lo hwf]

/-- The trap entry writes no other byte (R309). -/
theorem peek_takeTrap_ne (s : State) {b : Word} (h0 : b ≠ stackAddr s.sp) (h1 : b ≠ stackAddr (s.sp - 1))
    (h2 : b ≠ stackAddr (s.sp - 2)) : (takeTrap s).peek b = s.peek b := by
  rw [peek_takeTrap_of_ne_flags s h2, State.peek_push16_ne s _ h0 h1]

/-- The pushes stay in page 0x01, so the vector read after them is the one before them (R69, R309). -/
theorem takeTrap_pc (s : State) : (takeTrap s).pc = mkWord (s.peek 0xFFFF) (s.peek 0xFFFE) := by
  have hkeep {b : Word} (hb : hi b ≠ 0x01) : (takeTrap s).peek b = s.peek b :=
    peek_takeTrap_ne s (ne_stackAddr_of_hi_ne hb _) (ne_stackAddr_of_hi_ne hb _) (ne_stackAddr_of_hi_ne hb _)
  calc (takeTrap s).pc
    _ = mkWord ((takeTrap s).peek 0xFFFF) ((takeTrap s).peek 0xFFFE) := rfl
    _ = mkWord (s.peek 0xFFFF) (s.peek 0xFFFE) := by rw [hkeep (by decide), hkeep (by decide)]

/-- The trap entry sets Flags.I and keeps every other flag (R160). -/
theorem getLsbD_takeTrap_flags (s : State) (k : Nat) :
    (takeTrap s).flags.getLsbD k = if k = 2 then true else s.flags.getLsbD k := by
  obtain ⟨-, -, -, -, hflags, -⟩ := takeTrap_fields s
  simp only [hflags, getLsbD_flagSet, getLsbD_maskI, decide_eq_true_eq]

/-- Settles O34: BRK is the trap entry and 7 cycles, and the trap entry's three stack bytes differ for every SP. -/
theorem brkSavesAndGoesThroughTheVector : Obligations.BrkSavesAndGoesThroughTheVector := by
  intro s hwf
  obtain ⟨ha, hx, hy, -, -, hcyc, hcfg, -⟩ := takeTrap_fields s
  have hhigh := peek_takeTrap_hi hwf
  have hlow := peek_takeTrap_lo hwf
  have hpushed := peek_takeTrap_flags hwf
  have hframe := fun b => peek_takeTrap_ne s (b := b)
  refine ⟨(takeTrap s).addCost 7, rfl, hhigh, hlow, hpushed, hframe, takeTrap_sp s, ?_, fun k hk => ?_, ha, hx, hy,
    takeTrap_pc s, ?_, hcfg⟩
  · rw [State.addCost_flags, getLsbD_takeTrap_flags, if_pos rfl]
  · rw [State.addCost_flags, getLsbD_takeTrap_flags, if_neg hk]
  · rw [State.addCost_cyc, hcyc, hcfg]

end Sys2Proof.Machine
end

section
/-! SUPPORT. The adder in numbers, and with a complemented operand; which instructions add to A, read off the mnemonic; what
they leave behind where `DecimalCheck()` does not refuse; and the statements of 47_arith.md. -/

namespace Sys2Proof.Machine

/-! ### The adder in numbers -/

/-- The result is the exact sum cut to 8 bits (R170). -/
theorem toNat_addWithCarry_result (a m : Byte) (c : Bool) :
    (addWithCarry a m c).result.toNat = (a.toNat + m.toNat + c.toNat) % 256 := by
  rw [addWithCarry_sum, Nat.add_mul_mod_self_left, Nat.mod_eq_of_lt (BitVec.isLt _)]

/-- The carry says that the unsigned sum exceeds 0xFF (R170). -/
theorem addWithCarry_carry (a m : Byte) (c : Bool) :
    (addWithCarry a m c).carry = decide (255 < a.toNat + m.toNat + c.toNat) := by
  have hr := (addWithCarry a m c).result.isLt
  rw [addWithCarry_sum]
  cases (addWithCarry a m c).carry with
  | false => exact (decide_eq_false (by rw [Bool.toNat_false]; omega)).symm
  | true => exact (decide_eq_true (by rw [Bool.toNat_true]; omega)).symm

/-- The overflow says that the operands have one sign and the result the other (R170). -/
theorem addWithCarry_overflow_iff_msb (a m : Byte) (c : Bool) :
    (addWithCarry a m c).overflow = true ↔ a.msb = m.msb ∧ (addWithCarry a m c).result.msb ≠ a.msb := by
  have hmsb : (addWithCarry a m c).overflow =
      (!(a.msb ^^ m.msb) && (a.msb ^^ (addWithCarry a m c).result.msb)) := by
    simp only [addWithCarry, BitVec.msb_and, BitVec.msb_xor, BitVec.msb_not, Nat.zero_lt_succ, decide_true, Bool.true_and]
  rw [hmsb, Bool.and_eq_true, Bool.not_eq_true', bne_eq_false_iff_eq, bne_iff_ne, ne_comm]

/-- The overflow says that the signed sum lies outside -128 to 127 (R170). -/
theorem addWithCarry_overflow_iff_toInt (a m : Byte) (c : Bool) :
    (addWithCarry a m c).overflow = true ↔
      ¬ (-128 ≤ a.toInt + m.toInt + (c.toNat : Int) ∧ a.toInt + m.toInt + (c.toNat : Int) ≤ 127) := by
  have hsum := toNat_addWithCarry_result a m c
  have ha := a.isLt
  have hm := m.isLt
  have hc := Bool.toNat_le c
  rw [addWithCarry_overflow_iff_msb]
  simp only [BitVec.msb_eq_decide, BitVec.toInt_eq_toNat_cond, ne_eq, decide_eq_decide]
  omega

/-- Settles O42: the exact sum gives result and carry; the three sign bits give the overflow. -/
theorem adderAddsBytes : Obligations.AdderAddsBytes := fun a m c =>
  ⟨toNat_addWithCarry_result a m c, by rw [addWithCarry_carry, decide_eq_true_iff], addWithCarry_overflow_iff_msb a m c,
    addWithCarry_overflow_iff_toInt a m c⟩

/-! ### The adder with the complement -/

/-- Adding the complement subtracts: `A - m - (1 - C)` modulo 256 (R172). -/
theorem toNat_addWithCarry_not_result (a m : Byte) (c : Bool) :
    ((addWithCarry a (~~~m) c).result.toNat : Int) = ((a.toNat : Int) - m.toNat - (1 - c.toNat)) % 256 := by
  have hm := m.isLt
  rw [toNat_addWithCarry_result, BitVec.toNat_not]
  omega

/-- The carry of adding the complement says that there is no borrow (R172). -/
theorem addWithCarry_not_carry (a m : Byte) (c : Bool) :
    (addWithCarry a (~~~m) c).carry = decide (m.toNat + (1 - c.toNat) ≤ a.toNat) := by
  have hm := m.isLt
  have hc := Bool.toNat_le c
  rw [addWithCarry_carry, BitVec.toNat_not, decide_eq_decide]
  omega

/-- The complement of a byte in two's complement. -/
theorem toInt_not_byte (m : Byte) : (~~~m).toInt = -1 - m.toInt := by
  have hm := m.isLt
  simp only [BitVec.toInt_eq_toNat_cond, BitVec.toNat_not]
  omega

/-- The overflow of adding the complement is the signed overflow of the difference (R172). -/
theorem addWithCarry_not_overflow_iff (a m : Byte) (c : Bool) :
    (addWithCarry a (~~~m) c).overflow = true ↔
      ¬ (-128 ≤ a.toInt - m.toInt - (1 - (c.toNat : Int)) ∧ a.toInt - m.toInt - (1 - (c.toNat : Int)) ≤ 127) := by
  have hdiff : a.toInt + (-1 - m.toInt) + (c.toNat : Int) = a.toInt - m.toInt - (1 - (c.toNat : Int)) := by ring
  rw [addWithCarry_overflow_iff_toInt, toInt_not_byte, hdiff]

/-! ### Which instructions add to A -/

/-- The instructions that add to A, each with what it makes of its operand (R171, R172). -/
abbrev adders : List (Mnemonic × (Byte → Byte)) := [(.ADC, fun m => m), (.SBC, fun m => ~~~m)]

theorem mem_adders_of_adc {mn : Mnemonic} (h : mn = .ADC) : (mn, fun m => m) ∈ adders := h ▸ .head _

theorem mem_adders_of_sbc {mn : Mnemonic} (h : mn = .SBC) : (mn, fun m => ~~~m) ∈ adders := h ▸ .tail _ (.head _)

/-- `i` is the shared addition to A of the operand under `fn` (the shapes `Shape.addOperand` and `Shape.subOperand`). -/
def AddsOperand (i : Instr) (fn : Byte → Byte) : Prop :=
  ∃ src, i.operand.source? = some src ∧ (∀ s, stepCost i s = i.entry.baseCycles + readPenalty src s) ∧
    ∀ s, exec i s = adderStep (fn (sourceByte src s)) (readPenalty src s) i.entry s

/-- The one split on the shape: an addition of the list, or a mnemonic that is not in it. -/
theorem addsOperand_or_other (i : Instr) :
    (∃ fn, (i.entry.mnemonic, fn) ∈ adders ∧ AddsOperand i fn) ∨ i.entry.mnemonic ∉ adders.map Prod.fst := by
  cases shape i with
  | addOperand src hm ho hc he => exact .inl ⟨_, mem_adders_of_adc hm, src, ho, hc, he⟩
  | subOperand src hm ho hc he => exact .inl ⟨_, mem_adders_of_sbc hm, src, ho, hc, he⟩
  | load _ _ hm | store _ _ hm | modifyMemory _ _ hm | modifyAccumulator _ hm | setRegister _ _ hm | writeFlag _ _ hm
    | pushRegister _ hm | branchOn _ _ _ hm | combine _ _ hm | compareRegister _ _ hm =>
    exact .inr (holds_of_mem hm (fun mn _ => mn ∉ adders.map Prod.fst) (by decide))
  | bitTest _ hm | jump _ _ hm =>
    rw [hm]
    exact .inr (by decide)
  | jsr w hi =>
    subst hi
    exact .inr (show Mnemonic.JSR ∉ adders.map Prod.fst by decide)
  | txs hi | pla hi | plp hi | brk hi | rti hi | rts hi | nop hi =>
    subst hi
    exact .inr (by decide)

/-- The mnemonic of an addition decides its shape and what it makes of its operand. -/
theorem addsOperand_of_mem {i : Instr} {fn : Byte → Byte} (hm : (i.entry.mnemonic, fn) ∈ adders) : AddsOperand i fn := by
  obtain ⟨fn', hm', ha⟩ | hn := addsOperand_or_other i
  · cases List.inj_on_of_nodup_map (f := Prod.fst) (by decide) hm hm' rfl
    exact ha
  · exact absurd (List.mem_map_of_mem hm) hn

/-! ### When an addition is refused -/

/-- `DecimalCheck()` reads `DECIMAL_MODE` and Decimal, bit 3 of Flags (R173). -/
theorem decimalRefused_eq_true_iff (s : State) :
    decimalRefused s = true ↔ s.cfg.decimalMode = .refuse ∧ s.flags.getLsbD 3 = true := by
  rw [decimalRefused, flagGet_maskD, Bool.and_eq_true, beq_iff_eq]

/-- `DecimalCheck()` does not refuse in binary mode or with Decimal 0 (R173). -/
theorem decimalRefused_eq_false {s : State} (h : s.cfg.decimalMode = .binary ∨ s.flags.getLsbD 3 = false) :
    decimalRefused s = false := by
  obtain hbin | hdec := h
  · exact decimalRefused_of_binary hbin
  · rw [decimalRefused, flagGet_maskD, hdec, Bool.and_false]

/-- An addition is refused where `DecimalCheck()` refuses (R173). -/
theorem AddsOperand.exec_refused {i : Instr} {fn : Byte → Byte} (ha : AddsOperand i fn) {s : State}
    (hd : decimalRefused s = true) : exec i s = .refused .decimalMode := by
  obtain ⟨src, -, -, he⟩ := ha
  exact (he s).trans (if_pos hd)

/-- Settles O7: whatever does not complete is an addition that `DecimalCheck()` refuses, and it refuses each such one. -/
theorem onlyDecimalArithmeticIsRefused : Obligations.OnlyDecimalArithmeticIsRefused := by
  intro i s r
  constructor
  · intro h
    obtain ⟨t, ht⟩ | ⟨hrefused, hd, hm⟩ := exec_completes_or_refused i s
    · cases ht.symm.trans h
    · cases hrefused.symm.trans h
      exact ⟨rfl, by simpa only [List.mem_cons, List.not_mem_nil, or_false] using hm,
        (decimalRefused_eq_true_iff s).1 hd⟩
  · rintro ⟨rfl, hm, hd⟩
    have hrefused := (decimalRefused_eq_true_iff s).2 hd
    obtain hadc | hsbc := hm
    · exact (addsOperand_of_mem (mem_adders_of_adc hadc)).exec_refused hrefused
    · exact (addsOperand_of_mem (mem_adders_of_sbc hsbc)).exec_refused hrefused

/-! ### What an addition leaves behind -/

/-- `t` is `s` after `i` put the adder's answer `o` in A and in C, V, Z and N (R171, R172). -/
structure TakesAdder (i : Instr) (o : AdderOut) (s t : State) : Prop where
  a : t.a = o.result
  carry : t.flags.getLsbD 0 = o.carry
  overflow : t.flags.getLsbD 6 = o.overflow
  frame : t.flags.getLsbD 1 = (t.a == 0) ∧ t.flags.getLsbD 7 = t.a.msb ∧
    (∀ k, k ≠ 0 → k ≠ 1 → k ≠ 6 → k ≠ 7 → t.flags.getLsbD k = s.flags.getLsbD k) ∧
    t.x = s.x ∧ t.y = s.y ∧ t.sp = s.sp ∧ SameMemory s t ∧ Passes i s t

/-- The body of an addition leaves the adder's answer and changes no more than A, four flags, PC and CYC (R79). -/
theorem endStep_takesAdder {i : Instr} {s : State} {n : Nat} (hc : stepCost i s = i.entry.baseCycles + n)
    (o : AdderOut) : ∃ t, endStep i.entry n ((s.setReg .a o.result).setFlags (setAdderFlags o s.flags)) = .next t ∧
      TakesAdder i o s t := by
  have hbit := getLsbD_setAdderFlags o s.flags
  refine ⟨_, rfl, rfl, hbit 0, hbit 6, hbit 1, hbit 7, fun k h0 h1 h6 h7 => ?_, rfl, rfl, rfl, fun _ => rfl,
    endStep_passes hc rfl rfl rfl⟩
  exact (hbit k).trans (by rw [if_neg h7, if_neg h1, if_neg h6, if_neg h0])

/-- An addition that `DecimalCheck()` lets pass completes with the adder's answer for A, the operand and Carry. -/
theorem exists_takesAdder_of_mem {i : Instr} {fn : Byte → Byte} (hm : (i.entry.mnemonic, fn) ∈ adders) {s : State}
    (h : s.cfg.decimalMode = .binary ∨ s.flags.getLsbD 3 = false) :
    ∃ src t, i.operand.source? = some src ∧ exec i s = .next t ∧
      TakesAdder i (addWithCarry s.a (fn (sourceByte src s)) (s.flags.getLsbD 0)) s t := by
  obtain ⟨src, ho, hc, he⟩ := addsOperand_of_mem hm
  obtain ⟨hd, -⟩ | ⟨-, hrun⟩ := adderStep_cases (fn (sourceByte src s)) (readPenalty src s) i.entry s
  · exact absurd (hd.symm.trans (decimalRefused_eq_false h)) (by decide)
  · rw [flagGet_maskC] at hrun
    obtain ⟨t, ht, htakes⟩ := endStep_takesAdder (hc s) (addWithCarry s.a (fn (sourceByte src s)) (s.flags.getLsbD 0))
    exact ⟨src, t, ho, ((he s).trans hrun).trans ht, htakes⟩

/-! ### The statements -/

/-- Settles O43: ADC takes the adder's answer for its operand as it is. -/
theorem adcAddsWithCarry : Obligations.AdcAddsWithCarry := by
  intro i s hm hd
  obtain ⟨src, t, ho, ht, htakes⟩ := exists_takesAdder_of_mem (mem_adders_of_adc hm) hd
  refine ⟨src, t, ho, ht, ?_, ?_, ?_, htakes.frame⟩
  · rw [htakes.a, toNat_addWithCarry_result]
  · rw [htakes.carry, addWithCarry_carry]
  · rw [htakes.overflow, addWithCarry_overflow_iff_toInt]

/-- Settles O44: SBC takes the adder's answer for its operand's complement, which is the difference. -/
theorem sbcSubtractsWithBorrow : Obligations.SbcSubtractsWithBorrow := by
  intro i s hm hd
  obtain ⟨src, t, ho, ht, htakes⟩ := exists_takesAdder_of_mem (mem_adders_of_sbc hm) hd
  refine ⟨src, t, ho, ht, ?_, ?_, ?_, htakes.frame⟩
  · rw [htakes.a, toNat_addWithCarry_not_result]
  · rw [htakes.carry, addWithCarry_not_carry]
  · rw [htakes.overflow, addWithCarry_not_overflow_iff]

end Sys2Proof.Machine
end

section
/-! SUPPORT. The four shifts in numbers, the accumulator form of a read-modify-write, and the statements of 48_shift.md. -/

namespace Sys2Proof.Machine

/-- The shifts, each with its byte function (R180 to R183). -/
abbrev shifters : List (Mnemonic × (Byte → Byte → Byte × Byte)) :=
  [(.ASL, aslByte), (.LSR, lsrByte), (.ROL, rolByte), (.ROR, rorByte)]

/-- The shifted byte and the evicted bit in numbers, for a byte `n` and an old Carry `c` (R180 to R183). -/
abbrev shiftTable (n c : Nat) : List (Mnemonic × Nat × Bool) :=
  [(.ASL, 2 * n % 256, decide (128 ≤ n)), (.LSR, n / 2, decide (n % 2 = 1)),
   (.ROL, (2 * n + c) % 256, decide (128 ≤ n)), (.ROR, n / 2 + 128 * c, decide (n % 2 = 1))]

/-- A shift's byte function answers its row of the table, and writes the evicted bit to Carry alone. -/
theorem exists_carry_of_shifter {mn : Mnemonic} {fn : Byte → Byte → Byte × Byte} (hm : (mn, fn) ∈ shifters) (v f : Byte) :
    ∃ carry, (fn v f).2 = flagSet maskC carry f ∧
      (mn, (fn v f).1.toNat, carry) ∈ shiftTable v.toNat (f.getLsbD 0).toNat := by
  obtain ⟨hleft, htop⟩ := toNat_shiftLeft_one v
  obtain ⟨hright, hbottom⟩ := toNat_shiftRight_one v
  simp only [List.mem_cons, Prod.mk.injEq, List.not_mem_nil, or_false] at hm
  obtain ⟨rfl, rfl⟩ | ⟨rfl, rfl⟩ | ⟨rfl, rfl⟩ | ⟨rfl, rfl⟩ := hm
  · exact ⟨v.getLsbD 7, rfl, by rw [aslByte, hleft, htop]; exact .head _⟩
  · exact ⟨v.getLsbD 0, rfl, by rw [lsrByte, hright, hbottom]; exact .tail _ (.head _)⟩
  · exact ⟨v.getLsbD 7, rfl, by rw [toNat_rolByte, htop]; exact .tail _ (.tail _ (.head _))⟩
  · exact ⟨v.getLsbD 0, rfl, by rw [toNat_rorByte, hbottom]; exact .tail _ (.tail _ (.tail _ (.head _)))⟩

/-- Settles O45: the operand excludes the accumulator form, so the mnemonic gives the shared read-modify-write. -/
theorem memoryShiftsMoveOneBit : Obligations.MemoryShiftsMoveOneBit := by
  intro i f s hwf ho hm
  obtain ⟨⟨_, fn⟩, hfn, rfl⟩ := List.mem_map (l := shifters) (f := Prod.fst).1 hm
  obtain ⟨f', ho', hc, he⟩ := modifiesMemory_of_mem (List.mem_cons_of_mem _ (List.mem_cons_of_mem _ hfn))
    fun hacc => by cases ho.symm.trans hacc.2
  cases ho.symm.trans ho'
  obtain ⟨carry, hcarry, hrow⟩ := exists_carry_of_shifter hfn (s.peek (effectiveAddress f s)) s.flags
  obtain ⟨t, ht, hsame, hother, hflags, hreg, hpass⟩ := endStep_poke_setFlags hwf (hc s) (effectiveAddress f s) _ _
  refine ⟨_, carry, t, (he s).trans ht, hsame, hother, ?_, hreg, hpass, hrow⟩
  rw [hflags, hcarry]
  exact setZN_carry_follow carry _ _

/-- The accumulator form of a shift is the shared read-modify-write on A (R63). -/
theorem exists_shifter_of_accumulator {i : Instr} (hi : i ∈ [Instr.aslAcc, .lsrAcc, .rolAcc, .rorAcc]) :
    ∃ fn, (i.entry.mnemonic, fn) ∈ shifters ∧ i.entry.penalty = .none ∧
      ∀ s, exec i s = modifyAccumulator fn i.entry s := by
  simp only [List.mem_cons, List.not_mem_nil, or_false] at hi
  obtain rfl | rfl | rfl | rfl := hi
  · exact ⟨_, .head _, rfl, fun _ => rfl⟩
  · exact ⟨_, .tail _ (.head _), rfl, fun _ => rfl⟩
  · exact ⟨_, .tail _ (.tail _ (.head _)), rfl, fun _ => rfl⟩
  · exact ⟨_, .tail _ (.tail _ (.tail _ (.head _))), rfl, fun _ => rfl⟩

/-- The table's row of an accumulator form is that of its mnemonic. -/
theorem mem_accumulator_table {i : Instr} (hi : i ∈ [Instr.aslAcc, .lsrAcc, .rolAcc, .rorAcc]) {n c v : Nat} {carry : Bool}
    (hrow : (i.entry.mnemonic, v, carry) ∈ shiftTable n c) :
    (i, v, carry) ∈ [(Instr.aslAcc, 2 * n % 256, decide (128 ≤ n)), (.lsrAcc, n / 2, decide (n % 2 = 1)),
      (.rolAcc, (2 * n + c) % 256, decide (128 ≤ n)), (.rorAcc, n / 2 + 128 * c, decide (n % 2 = 1))] := by
  simp only [List.mem_cons, List.not_mem_nil, or_false] at hi
  obtain rfl | rfl | rfl | rfl := hi <;> simpa [Instr.entry] using hrow

/-- Settles O46: the shared read-modify-write on A, whose byte function answers the table's row. -/
theorem accumulatorShiftsMoveOneBit : Obligations.AccumulatorShiftsMoveOneBit := by
  intro i s hi
  obtain ⟨fn, hfn, hp, he⟩ := exists_shifter_of_accumulator hi
  obtain ⟨carry, hcarry, hrow⟩ := exists_carry_of_shifter hfn s.a s.flags
  refine ⟨carry, _, he s, ?_, rfl, rfl, rfl, fun _ => rfl, endStep_passes (stepCost_none hp s) rfl rfl rfl,
    mem_accumulator_table hi hrow⟩
  rw [State.addCost_flags, State.setPc_flags, State.setFlags_flags, hcarry]
  exact setZN_carry_follow carry _ _

end Sys2Proof.Machine
end

section
/-! SUPPORT. Which instructions combine, test and compare, read off the mnemonic; the epilogue of an executor that owns PC;
the word a jump's pointer names; and the statements of 49_ext_nmos.md. -/

namespace Sys2Proof.Machine

/-! ### The shape of a logic instruction and of a compare -/

/-- The logic instructions, each with what it makes of A and its operand (R202 to R204). -/
abbrev combiners : List (Mnemonic × (Byte → Byte → Byte)) := [(.ORA, (· ||| ·)), (.AND, (· &&& ·)), (.EOR, (· ^^^ ·))]

/-- The compares, each with its register (R206 to R208). -/
abbrev comparers : List (Mnemonic × Reg8) := [(.CMP, .a), (.CPX, .x), (.CPY, .y)]

/-- `i` is the shared combination of A with its operand by `fn` (the shape `Shape.combine`). -/
def CombinesOperand (i : Instr) (fn : Byte → Byte → Byte) : Prop :=
  ∃ src, i.operand.source? = some src ∧ (∀ s, stepCost i s = i.entry.baseCycles + readPenalty src s) ∧
    ∀ s, exec i s = combine fn i.entry src s

/-- `i` is the shared bit test of a memory byte (the shape `Shape.bitTest`). -/
def TestsBits (i : Instr) : Prop :=
  ∃ f, i.operand = .memory f ∧ (∀ s, stepCost i s = i.entry.baseCycles + readPenalty (.memory f) s) ∧
    ∀ s, exec i s = bitTest i.entry (.memory f) s

/-- `i` is the shared compare of `r` with its operand (the shape `Shape.compareRegister`). -/
def ComparesRegister (i : Instr) (r : Reg8) : Prop :=
  ∃ src, i.operand.source? = some src ∧ (∀ s, stepCost i s = i.entry.baseCycles + readPenalty src s) ∧
    ∀ s, exec i s = compareRegister r i.entry src s

/-- The mnemonics of the logic instructions, BIT and the compares. -/
abbrev logicMnemonics : List Mnemonic := combiners.map Prod.fst ++ .BIT :: comparers.map Prod.fst

/-- The one split on the shape: a logic instruction, BIT, a compare, or a mnemonic of none of them. -/
theorem combiner_or_bit_or_comparer_or_other (i : Instr) :
    (∃ fn, (i.entry.mnemonic, fn) ∈ combiners ∧ CombinesOperand i fn) ∨ (i.entry.mnemonic = .BIT ∧ TestsBits i) ∨
      (∃ r, (i.entry.mnemonic, r) ∈ comparers ∧ ComparesRegister i r) ∨ i.entry.mnemonic ∉ logicMnemonics := by
  cases shape i with
  | combine fn src hm ho hc he => exact .inl ⟨fn, hm, src, ho, hc, he⟩
  | bitTest f hm ho hc he => exact .inr (.inl ⟨hm, f, ho, hc, he⟩)
  | compareRegister r src hm ho hc he => exact .inr (.inr (.inl ⟨r, hm, src, ho, hc, he⟩))
  | load _ _ hm | store _ _ hm | modifyMemory _ _ hm | modifyAccumulator _ hm | setRegister _ _ hm | writeFlag _ _ hm
    | pushRegister _ hm | branchOn _ _ _ hm =>
    exact .inr (.inr (.inr (holds_of_mem hm (fun mn _ => mn ∉ logicMnemonics) (by decide))))
  | addOperand _ hm | subOperand _ hm | jump _ _ hm =>
    rw [hm]
    exact .inr (.inr (.inr (by decide)))
  | jsr w hi =>
    subst hi
    exact .inr (.inr (.inr (show Mnemonic.JSR ∉ logicMnemonics by decide)))
  | txs hi | pla hi | plp hi | brk hi | rti hi | rts hi | nop hi =>
    subst hi
    exact .inr (.inr (.inr (by decide)))

/-- The mnemonic of a logic instruction decides its shape and its combination. -/
theorem combinesOperand_of_mem {i : Instr} {fn : Byte → Byte → Byte} (hm : (i.entry.mnemonic, fn) ∈ combiners) :
    CombinesOperand i fn := by
  have hno : i.entry.mnemonic ∉ Mnemonic.BIT :: comparers.map Prod.fst :=
    holds_of_mem hm (fun mn _ => mn ∉ Mnemonic.BIT :: comparers.map Prod.fst) (by decide)
  obtain ⟨fn', hm', hcomb⟩ | ⟨hbit, -⟩ | ⟨r, hm', -⟩ | hn := combiner_or_bit_or_comparer_or_other i
  · cases List.inj_on_of_nodup_map (f := Prod.fst) (by decide) hm hm' rfl
    exact hcomb
  · exact absurd (hbit ▸ .head _) hno
  · exact absurd (List.mem_cons_of_mem _ (List.mem_map_of_mem hm')) hno
  · exact absurd (List.mem_append_left _ (List.mem_map_of_mem hm)) hn

theorem testsBits_of_bit {i : Instr} (hm : i.entry.mnemonic = .BIT) : TestsBits i := by
  obtain ⟨fn, hm', -⟩ | ⟨-, hbit⟩ | ⟨r, hm', -⟩ | hn := combiner_or_bit_or_comparer_or_other i
  · exact absurd hm (holds_of_mem hm' (fun mn _ => mn ≠ .BIT) (by decide))
  · exact hbit
  · exact absurd hm (holds_of_mem hm' (fun mn _ => mn ≠ .BIT) (by decide))
  · exact absurd (List.mem_append_right _ (hm ▸ .head _)) hn

/-- The mnemonic of a compare decides its shape and its register. -/
theorem comparesRegister_of_mem {i : Instr} {r : Reg8} (hm : (i.entry.mnemonic, r) ∈ comparers) :
    ComparesRegister i r := by
  obtain ⟨fn, hm', -⟩ | ⟨hbit, -⟩ | ⟨r', hm', hcmp⟩ | hn := combiner_or_bit_or_comparer_or_other i
  · exact absurd (List.mem_map_of_mem hm) (holds_of_mem hm' (fun mn _ => mn ∉ comparers.map Prod.fst) (by decide))
  · exact absurd hbit (holds_of_mem hm (fun mn _ => mn ≠ .BIT) (by decide))
  · cases List.inj_on_of_nodup_map (f := Prod.fst) (by decide) hm hm' rfl
    exact hcmp
  · exact absurd (List.mem_append_right _ (.tail _ (List.mem_map_of_mem hm))) hn

/-! ### Logic, bit test and compare -/

/-- The three combinations bit by bit (R202 to R204). -/
theorem getLsbD_combiner {mn : Mnemonic} {fn : Byte → Byte → Byte} (hm : (mn, fn) ∈ combiners) (a m : Byte) (k : Nat) :
    (mn, (fn a m).getLsbD k) ∈ [(Mnemonic.ORA, a.getLsbD k || m.getLsbD k), (.AND, a.getLsbD k && m.getLsbD k),
      (.EOR, a.getLsbD k ^^ m.getLsbD k)] := by
  simp only [List.mem_cons, Prod.mk.injEq, List.not_mem_nil, or_false] at hm
  obtain ⟨rfl, rfl⟩ | ⟨rfl, rfl⟩ | ⟨rfl, rfl⟩ := hm
  · rw [BitVec.getLsbD_or]
    exact .head _
  · rw [BitVec.getLsbD_and]
    exact .tail _ (.head _)
  · rw [BitVec.getLsbD_xor]
    exact .tail _ (.tail _ (.head _))

/-- Settles O47: the mnemonic gives the shared combination, whose body writes A with Zero and Negative. -/
theorem logicCombinesBitsIntoA : Obligations.LogicCombinesBitsIntoA := by
  intro i s hm
  obtain ⟨⟨_, fn⟩, hfn, rfl⟩ := List.mem_map (l := combiners) (f := Prod.fst).1 hm
  obtain ⟨src, ho, hc, he⟩ := combinesOperand_of_mem hfn
  obtain ⟨t, ht, (ha : t.a = _), hzn, hreg, hmem, hpass⟩ :=
    endStep_setReg_setZN (r := .a) (by decide) (hc s) (fn s.a (sourceByte src s))
  have hx : t.x = s.x := hreg .x (by decide) (by decide)
  have hy : t.y = s.y := hreg .y (by decide) (by decide)
  have hsp : t.sp = s.sp := hreg .sp (by decide) (by decide)
  refine ⟨src, t, ho, (he s).trans ht, fun k => ?_, ?_, hx, hy, hsp, hmem, hpass⟩
  · rw [ha]
    exact getLsbD_combiner hfn s.a _ k
  · rw [ha]
    exact hzn

/-- Two bytes share no set bit exactly where their conjunction is zero (R205). -/
theorem and_beq_zero_iff (a m : Byte) :
    ((a &&& m) == 0) = true ↔ ∀ k, ¬ (a.getLsbD k = true ∧ m.getLsbD k = true) := by
  have hshare := not_congr (ne_zero_iff_exists_bit (a &&& m))
  rw [not_ne_iff] at hshare
  simp only [beq_iff_eq, BitVec.getLsbD_and, Bool.and_eq_true, not_exists] at hshare ⊢
  exact hshare

/-- Settles O48: BIT writes Flags alone, whose bits 1, 6 and 7 come from the memory byte. -/
theorem bitTestsTheMemoryByte : Obligations.BitTestsTheMemoryByte := by
  intro i s hm
  obtain ⟨f, ho, hc, he⟩ := testsBits_of_bit hm
  have hbit := getLsbD_bitFlags s.a (s.peek (effectiveAddress f s)) s.flags
  obtain ⟨t, ht, hflags, hframe⟩ := endStep_setFlags (hc s) (bitFlags s.a (s.peek (effectiveAddress f s)) s.flags)
  rw [← hflags] at hbit
  refine ⟨f, t, ho, (he s).trans ht, ?_, hbit 7, hbit 6, fun k h1 h6 h7 => ?_, hframe⟩
  · rw [hbit 1]
    exact and_beq_zero_iff _ _
  · rw [hbit k, if_neg h6, if_neg h7, if_neg h1]

/-- The adder's result for a complement and Carry 1 is the difference (R201). -/
theorem addWithCarry_not_true_result (r m : Byte) : (addWithCarry r (~~~m) true).result = r - m := by
  have hm := m.isLt
  apply BitVec.eq_of_toNat_eq
  rw [toNat_addWithCarry_result, BitVec.toNat_not, BitVec.toNat_sub, Bool.toNat_true]
  omega

/-- Settles O49: the compare is the adder with the complement and Carry 1, so its carry says that nothing was borrowed. -/
theorem comparesOrderRegisterAndOperand : Obligations.ComparesOrderRegisterAndOperand := by
  intro i r s hm
  obtain ⟨src, ho, hc, he⟩ := comparesRegister_of_mem hm
  have hbit := getLsbD_compareFlags (s.reg r) (sourceByte src s) s.flags
  rw [addWithCarry_not_true_result, addWithCarry_not_carry] at hbit
  obtain ⟨t, ht, hflags, hframe⟩ := endStep_setFlags (hc s) (compareFlags (s.reg r) (sourceByte src s) s.flags)
  rw [← hflags] at hbit
  refine ⟨src, t, ho, (he s).trans ht, hbit 0, ?_, ?_, fun k h0 h1 h7 => ?_, hframe⟩
  · rw [hbit 1, Bool.eq_iff_iff, decide_eq_true_iff]
    exact beq_iff_eq.trans sub_eq_zero
  · rw [hbit 7, BitVec.msb_eq_getLsbD_last]
    rfl
  · rw [hbit k, if_neg h7, if_neg h1, if_neg h0]

/-! ### Jumps and subroutines -/

/-- The epilogue of an executor that set PC, from a body that left CYC and the parameters alone. -/
theorem endStepAt_transfers {i : Instr} {s u : State} {n : Nat} (hc : stepCost i s = i.entry.baseCycles + n) (w : Word)
    (hcyc : u.cyc = s.cyc) (hcfg : u.cfg = s.cfg) :
    Transfers i w s ((u.setPc w).addCost (i.entry.baseCycles + n)) := by
  refine ⟨rfl, ?_, hcfg⟩
  rw [State.addCost_cyc, State.setPc_cyc, State.setPc_cfg, hcyc, hcfg, hc]

/-- The first byte of the page of a pointer at 0xxxFF lies 255 below it (R209). -/
theorem and_page_of_lo_eq {p : Word} (hp : lo p = 0xFF) : p &&& 0xFF00 = p - 255 := by
  have hpage : ∀ h : Byte, mkWord h 0xFF &&& 0xFF00 = mkWord h 0xFF - 255 := by decide
  have h := hpage (hi p)
  rwa [← hp, mkWord_hi_lo] at h

/-- Where the pointer's high byte lies: in the next byte, or by `JMP_IND_PAGE_BUG` at the start of its page (R209). -/
theorem indirectTarget_eq (p : Word) (s : State) : indirectTarget p s =
    mkWord (s.peek (if s.cfg.jmpIndPageBug = true ∧ p.toNat % 256 = 255 then p - 255 else p + 1)) (s.peek p) := by
  have hlo : p.toNat % 256 = 255 ↔ lo p = 0xFF := by
    rw [← toNat_lo, ← BitVec.toNat_inj]
    rfl
  simp only [indirectTarget, hlo, Bool.and_eq_true, beq_iff_eq]
  split
  · next h => rw [and_page_of_lo_eq h.2]
  · exact State.peekWord_eq s p

/-- Settles O37: both forms are the epilogue alone, with the operand or the pointer's word for PC. -/
theorem jmpGoesToItsTarget : Obligations.JmpGoesToItsTarget := by
  intro s w
  refine ⟨⟨_, rfl, endStep_reg s _ _, endStep_peek s _ _, ?_⟩, ⟨_, rfl, endStep_reg s _ _, endStep_peek s _ _, ?_⟩⟩
  · exact endStepAt_transfers (i := .jmpAbs w) (stepCost_none rfl s) w rfl rfl
  · rw [← indirectTarget_eq]
    exact endStepAt_transfers (i := .jmpInd w) (stepCost_none rfl s) _ rfl rfl

/-- A 16-bit push changes no register but SP (R66). -/
theorem State.push16_reg (s : State) (w : Word) {q : Reg8} (hq : q ≠ .sp) : (s.push16 w).reg q = s.reg q :=
  (State.push_reg (s.push (hi w)) (lo w) hq).trans (State.push_reg s (hi w) hq)

/-- Settles O38: the body of JSR is a 16-bit push, whose bytes lie where R66 puts them. -/
theorem jsrPushesAndJumps : Obligations.JsrPushesAndJumps := by
  intro s w hwf
  have hhigh := State.peek_push16_hi hwf (s.pc + 2)
  have hlow := State.peek_push16_lo hwf (s.pc + 2)
  have hframe := fun b => State.peek_push16_ne s (s.pc + 2) (b := b)
  refine ⟨_, rfl, hhigh, hlow, hframe, State.push16_sp_eq s _, fun q hq => ?_, ?_⟩
  · rw [endStep_reg, State.push16_reg s _ hq]
  · exact endStepAt_transfers (i := .jsr w) (stepCost_none rfl s) w rfl rfl

/-- A pull changes no register but SP (R65). -/
theorem State.pull_reg (s : State) {q : Reg8} (hq : q ≠ .sp) : s.pull.reg q = s.reg q :=
  State.reg_setReg_ne s (s.sp + 1) hq

/-- A 16-bit pull changes no register but SP (R66). -/
theorem State.pull16_reg (s : State) {q : Reg8} (hq : q ≠ .sp) : s.pull16.reg q = s.reg q :=
  (State.pull_reg s.pull hq).trans (State.pull_reg s hq)

/-- A 16-bit pull moves SP up by 2 (R66). -/
theorem State.pull16_sp_eq (s : State) : s.pull16.sp = s.sp + 2 := by
  rw [State.pull16_sp]
  bv_omega

/-- Settles O39: the body of RTS is a 16-bit pull, and its word plus 1 is where the epilogue goes. -/
theorem rtsReturnsPastThePulledAddress : Obligations.RtsReturnsPastThePulledAddress := by
  intro s
  refine ⟨_, rfl, State.pull16_sp_eq s, fun q hq => ?_, fun _ => rfl, ?_⟩
  · rw [endStep_reg, State.pull16_reg s hq]
  · rw [← State.pull16_sp_eq, ← State.pull_sp]
    exact endStepAt_transfers (i := .rts) (u := s.pull16) (stepCost_none rfl s) (s.pulled16 + 1) rfl rfl

/-- A 16-bit pull after a 16-bit push restores every register (R66). -/
theorem State.pull16_reg_of_push16 (s : State) (w : Word) (q : Reg8) : (s.push16 w).pull16.reg q = s.reg q := by
  by_cases hq : q = .sp
  · subst hq
    simp
  · rw [State.pull16_reg _ hq, State.push16_reg s w hq]

/-- Settles O40: the pull of RTS returns the word that JSR pushed, the address of the last of its three bytes. -/
theorem rtsUndoesJsr : Obligations.RtsUndoesJsr := by
  rintro s t w hwf ⟨⟩
  have hword := State.pulled16_push16 hwf (s.pc + 2)
  have hreg := State.pull16_reg_of_push16 s (s.pc + 2)
  have hpc : (s.push16 (s.pc + 2)).pulled16 + 1 = s.pc + 3 := by
    rw [hword]
    bv_omega
  exact ⟨_, rfl, hpc, hreg .sp, fun q => (endStep_reg _ _ _ q).trans (hreg q)⟩

/-- Settles O41: NOP is the epilogue alone. -/
theorem nopOnlyPasses : Obligations.NopOnlyPasses :=
  fun s => ⟨_, rfl, endStep_reg s _ _, endStep_peek s _ _, endStep_passes (i := .nop) (stepCost_none rfl s) rfl rfl rfl⟩

end Sys2Proof.Machine
end

section
/-! SUPPORT. The return from the trap, what a step that meets no instruction does, where a run ends, and that Flags.I decides
nothing: the statements of 60_exceptions.md. -/

namespace Sys2Proof.Machine

/-! ### The return from the trap -/

/-- The three pulls move SP up by 3 (R310). -/
theorem returnFromTrap_sp (s : State) : (returnFromTrap s).sp = s.sp + 3 := by
  obtain ⟨-, -, -, hsp, -⟩ := returnFromTrap_fields s
  rw [hsp]
  bv_omega

/-- The flags come from the byte one above SP, with Break low (R212). -/
theorem getLsbD_returnFromTrap_flags (s : State) (k : Nat) : (returnFromTrap s).flags.getLsbD k =
    if k = 4 then false else (s.peek (stackAddr (s.sp + 1))).getLsbD k := by
  obtain ⟨-, -, -, -, hflags, -⟩ := returnFromTrap_fields s
  rw [hflags, getLsbD_restoredFlags, State.pulled_eq]

/-- The return address lies two and three above SP, its low byte first (R212). -/
theorem returnFromTrap_pc (s : State) :
    (returnFromTrap s).pc = mkWord (s.peek (stackAddr (s.sp + 3))) (s.peek (stackAddr (s.sp + 2))) := by
  obtain ⟨-, -, -, -, -, hpc, -⟩ := returnFromTrap_fields s
  have h2 : s.sp + 1 + 1 = s.sp + 2 := by bv_omega
  have h3 : s.sp + 2 + 1 = s.sp + 3 := by bv_omega
  rw [hpc, State.pulled16_eq, State.pull_sp, h2, h3]
  rfl

/-- Settles O35: RTI is the return from the trap and 6 cycles. -/
theorem rtiRestoresFlagsAndPc : Obligations.RtiRestoresFlagsAndPc := by
  intro s
  obtain ⟨ha, hx, hy, -, -, -, hmem, hcyc, hcfg⟩ := returnFromTrap_fields s
  have hpeek : SameMemory s ((returnFromTrap s).addCost 6) := fun b => congrArg (Memory.peek · b) hmem
  refine ⟨(returnFromTrap s).addCost 6, rfl, ?_, fun k hk => ?_, returnFromTrap_sp s, ha, hx, hy, hpeek,
    returnFromTrap_pc s, ?_, hcfg⟩
  · rw [State.addCost_flags, getLsbD_returnFromTrap_flags, if_pos rfl]
  · rw [State.addCost_flags, getLsbD_returnFromTrap_flags, if_neg hk]
    rfl
  · rw [State.addCost_cyc, hcyc, hcfg]
    rfl

/-- Settles O36: RTI finds the three bytes that BRK pushed one, two and three above the SP that BRK left. -/
theorem rtiUndoesBrk : Obligations.RtiUndoesBrk := by
  intro s t hwf h
  obtain ⟨t', ht', hhigh, hlow, hpushed, -, hsp, -, -, ha, hx, hy, -⟩ := brkSavesAndGoesThroughTheVector s hwf
  cases ht'.symm.trans h
  obtain ⟨u, hu, hbreak, huflags, husp, hua, hux, huy, -, hupc, -⟩ := rtiRestoresFlagsAndPc t
  have h1 : s.sp - 3 + 1 = s.sp - 2 := by bv_omega
  have h2 : s.sp - 3 + 2 = s.sp - 1 := by bv_omega
  have h3 : s.sp - 3 + 3 = s.sp := by bv_omega
  refine ⟨u, hu, ?_, ?_, hbreak, fun k hk => ?_, hua.trans ha, hux.trans hx, huy.trans hy⟩
  · rw [hupc, hsp, h2, h3, hhigh, hlow, mkWord_hi_lo]
  · rw [husp, hsp, h3]
  · rw [huflags k hk, hsp, h1, hpushed]
    exact (getLsbD_pushedBreakFlags s.flags k).trans (if_neg hk)

/-! ### Decode errors -/

/-- An executor raises no fault (R300). -/
theorem exec_ne_fault (i : Instr) (s : State) (f : Fault) : exec i s ≠ .fault f := by
  intro hf
  obtain ⟨t, h⟩ | ⟨h, -, -⟩ := exec_completes_or_refused i s
  · cases h.symm.trans hf
  · cases h.symm.trans hf

/-- Settles O6: with an entry the step is an executor, which raises no fault; without one it is the decode error. -/
theorem decodeErrorReportsTheByteAndChangesNothing : Obligations.DecodeErrorReportsTheByteAndChangesNothing := by
  intro s f
  obtain ⟨i, hl, -, hs, -⟩ | ⟨hl, hf, hs⟩ := step_cases s
  · rw [hs, hl]
    exact ⟨⟨fun h => absurd h (exec_ne_fault i s f), fun h => absurd h.1 (Option.some_ne_none _)⟩,
      fun h => absurd h (Option.some_ne_none _)⟩
  · rw [hs, hl]
    refine ⟨⟨?_, ?_⟩, fun _ => by simp only [hostStep, hf]⟩
    · rintro ⟨⟩
      exact ⟨rfl, rfl⟩
    · rintro ⟨-, rfl⟩
      rfl

/-- A run that goes on for `n` steps is then a run from the state it reached (R318). -/
theorem runTo_add_of_running {haltAddr : Word} {n : Nat} {s t : State} (h : runTo haltAddr n s = .running t) (m : Nat) :
    runTo haltAddr (n + m) s = runTo haltAddr m t := by
  induction n generalizing s with
  | zero =>
    cases h
    rw [Nat.zero_add]
  | succ n ih =>
    rw [Nat.add_right_comm]
    simp only [runTo] at h ⊢
    split at h
    · next hs => exact ih h
    · split at h <;> cases h
    · cases h

/-- Settles O60: the step after the `n` that went on is the decode error, which ends the run. -/
theorem runEndsAtItsFirstDecodeError : Obligations.RunEndsAtItsFirstDecodeError := by
  intro haltAddr n s t op a hrun hstep k
  rw [Nat.add_assoc, runTo_add_of_running hrun]
  simp only [runTo, hstep]

/-! ### Flags.I -/

/-- The two bytes of flags differ at most in bit 2, Flags.I. -/
def AgreeOffI (f g : Byte) : Prop := ∀ k, k ≠ 2 → g.getLsbD k = f.getLsbD k

namespace AgreeOffI

theorem refl (f : Byte) : AgreeOffI f f := fun _ _ => rfl

/-- Inverting bit 2 leaves the other bits. -/
theorem xor_maskI (f : Byte) : AgreeOffI f (f ^^^ 0x04) := by
  intro k hk
  have hbit : (0x04 : Byte).getLsbD k = false := (getLsbD_maskI k).trans (decide_eq_false hk)
  rw [BitVec.getLsbD_xor, hbit, Bool.xor_false]

variable {f g : Byte}

theorem flagSet (h : AgreeOffI f g) (m : Byte) (v : Bool) : AgreeOffI (flagSet m v f) (flagSet m v g) := by
  intro k hk
  rw [getLsbD_flagSet, getLsbD_flagSet, h k hk]

theorem setZN (h : AgreeOffI f g) (v : Byte) : AgreeOffI (setZN v f) (setZN v g) := (h.flagSet _ _).flagSet _ _

theorem setAdderFlags (h : AgreeOffI f g) (o : AdderOut) : AgreeOffI (setAdderFlags o f) (setAdderFlags o g) :=
  ((h.flagSet _ _).flagSet _ _).setZN _

theorem compareFlags (h : AgreeOffI f g) (r m : Byte) : AgreeOffI (compareFlags r m f) (compareFlags r m g) :=
  (h.flagSet _ _).setZN _

theorem bitFlags (h : AgreeOffI f g) (a m : Byte) : AgreeOffI (bitFlags a m f) (bitFlags a m g) :=
  ((h.flagSet _ _).flagSet _ _).flagSet _ _

theorem pushedBreakFlags (h : AgreeOffI f g) : AgreeOffI (pushedBreakFlags f) (pushedBreakFlags g) := by
  intro k hk
  rw [getLsbD_pushedBreakFlags, getLsbD_pushedBreakFlags, h k hk]

/-- A flag other than Flags.I reads the same. -/
theorem flagGet (h : AgreeOffI f g) {m : Byte} (hm : m.getLsbD 2 = false) : flagGet m g = flagGet m f := by
  have hbit (k : Nat) (hk : m.getLsbD k = true) : g.getLsbD k = f.getLsbD k :=
    h k fun h2 => by rw [h2, hm] at hk; cases hk
  rw [Bool.eq_iff_iff, flagGet_eq_true_iff, flagGet_eq_true_iff]
  exact exists_congr fun k => and_congr_right fun hk => by rw [hbit k hk]

/-- The byte functions read and write Carry alone (R110, R111, R180 to R183). -/
theorem byteFn (h : AgreeOffI f g) {mn : Mnemonic} {fn : Byte → Byte → Byte × Byte} (hm : (mn, fn) ∈ byteModifiers)
    (v : Byte) : (fn v g).1 = (fn v f).1 ∧ AgreeOffI (fn v f).2 (fn v g).2 := by
  have hcarry : Machine.flagGet maskC g = Machine.flagGet maskC f := h.flagGet rfl
  simp only [List.mem_cons, Prod.mk.injEq, List.not_mem_nil, or_false] at hm
  obtain ⟨-, rfl⟩ | ⟨-, rfl⟩ | ⟨-, rfl⟩ | ⟨-, rfl⟩ | ⟨-, rfl⟩ | ⟨-, rfl⟩ := hm
  · exact ⟨rfl, h⟩
  · exact ⟨rfl, h⟩
  · exact ⟨rfl, h.flagSet _ _⟩
  · exact ⟨rfl, h.flagSet _ _⟩
  · exact ⟨by rw [rolByte, rolByte, hcarry], h.flagSet _ _⟩
  · exact ⟨by rw [rorByte, rorByte, hcarry], h.flagSet _ _⟩

end AgreeOffI

/-- Where `r` completes, `r'` completes in the same state but for Flags.I. -/
def SameButI (r r' : Result) : Prop := ∀ t, r = .next t → ∃ g, AgreeOffI t.flags g ∧ r' = .next (t.setFlags g)

section
variable (s : State) (f : Byte)

@[simp] theorem effectiveAddress_setFlags (m : MemForm) : effectiveAddress m (s.setFlags f) = effectiveAddress m s := by
  cases m <;> rfl

@[simp] theorem sourceByte_setFlags (src : Source) : sourceByte src (s.setFlags f) = sourceByte src s := by
  cases src with
  | immediate v => rfl
  | memory m => exact congrArg s.peek (effectiveAddress_setFlags s f m)

@[simp] theorem writePenalty_setFlags (m : MemForm) : writePenalty m (s.setFlags f) = writePenalty m s := by
  cases m <;> rfl

@[simp] theorem readPenalty_setFlags (src : Source) : readPenalty src (s.setFlags f) = readPenalty src s := by
  cases src with
  | immediate v => rfl
  | memory m => cases m <;> rfl

end

section
variable {s : State} {f g g' : Byte}

theorem sameButI_endStep (hg : AgreeOffI s.flags g) (e : Entry) (p : Nat) :
    SameButI (endStep e p s) (endStep e p (s.setFlags g)) := by
  rintro t ⟨⟩
  exact ⟨g, hg, rfl⟩

theorem sameButI_endStepAt (hg : AgreeOffI s.flags g) (e : Entry) (p : Nat) (w : Word) :
    SameButI (endStepAt e p w s) (endStepAt e p w (s.setFlags g)) := by
  rintro t ⟨⟩
  exact ⟨g, hg, rfl⟩

/-- A body that writes a register and then Flags. -/
theorem sameButI_setReg (hg : AgreeOffI g g') (r : Reg8) (v : Byte) (e : Entry) (p : Nat) :
    SameButI (endStep e p ((s.setReg r v).setFlags g)) (endStep e p (((s.setFlags f).setReg r v).setFlags g')) := by
  rintro t ⟨⟩
  exact ⟨g', hg, by cases r <;> rfl⟩

theorem sameButI_adderStep (hf : AgreeOffI s.flags f) (m : Byte) (p : Nat) (e : Entry) :
    SameButI (adderStep m p e s) (adderStep m p e (s.setFlags f)) := by
  have hcarry : flagGet maskC f = flagGet maskC s.flags := hf.flagGet rfl
  have hdec : decimalRefused (s.setFlags f) = decimalRefused s :=
    congrArg (s.cfg.decimalMode == .refuse && ·) (hf.flagGet (m := maskD) rfl)
  simp only [adderStep, hdec, State.setFlags_flags, State.setFlags_a, hcarry]
  split
  · rintro t ⟨⟩
  · exact sameButI_setReg (hf.setAdderFlags _) .a _ e p

theorem sameButI_branchOn (hf : AgreeOffI s.flags f) {m : Byte} (hm : m.getLsbD 2 = false) (v : Bool) (e : Entry)
    (d : Byte) : SameButI (branchOn m v e d s) (branchOn m v e d (s.setFlags f)) := by
  simp only [branchOn, State.setFlags_flags, hf.flagGet hm]
  split
  · exact sameButI_endStepAt hf e _ _
  · exact sameButI_endStep hf e _

/-- No instruction but PHP and BRK does anything else with Flags.I than keep it or write it (R306). -/
theorem exec_sameButI (hf : AgreeOffI s.flags f) {i : Instr} (hi : i.entry.mnemonic ∉ [Mnemonic.PHP, .BRK]) :
    SameButI (exec i s) (exec i (s.setFlags f)) := by
  cases shape i with
  | load r src _ _ _ he =>
    simp only [he, load, sourceByte_setFlags, readPenalty_setFlags]
    exact sameButI_setReg (hf.setZN _) r _ _ _
  | store r m hm _ _ he =>
    have hr : r ≠ .flags := holds_of_mem hm (fun _ r => r ≠ .flags) (by decide)
    simp only [he, store, effectiveAddress_setFlags, writePenalty_setFlags, State.setFlags_reg _ _ hr]
    exact sameButI_endStep (s := s.poke _ _) hf _ _
  | modifyMemory fn m hm _ _ he =>
    obtain ⟨hbyte, hflags⟩ := hf.byteFn hm (s.peek (effectiveAddress m s))
    simp only [he, modifyMemory, effectiveAddress_setFlags, writePenalty_setFlags, State.setFlags_peek,
      State.setFlags_flags, hbyte]
    exact sameButI_endStep (s := (s.poke _ _).setFlags _) (hflags.setZN _) _ _
  | modifyAccumulator fn hm _ _ he =>
    obtain ⟨hbyte, hflags⟩ := hf.byteFn (.tail _ (.tail _ hm)) s.a
    simp only [he, modifyAccumulator, State.setFlags_a, State.setFlags_flags, hbyte]
    exact sameButI_setReg (hflags.setZN _) .a _ _ _
  | setRegister r v hm _ he =>
    have hv : v (s.setFlags f) = v s := holds_of_mem hm (fun _ q => q.2 (s.setFlags f) = q.2 s) (by simp)
    simp only [he, setRegister, hv]
    exact sameButI_setReg (hf.setZN _) r _ _ _
  | txs hi =>
    subst hi
    exact sameButI_endStep (s := s.setReg .sp s.x) hf _ _
  | writeFlag m v _ _ he =>
    simp only [he]
    exact sameButI_endStep (s := s.setFlags _) (hf.flagSet m v) _ _
  | pushRegister r hm _ he =>
    have hr : r ≠ .flags := fun hr =>
      hi (holds_of_mem hm (fun mn r => r = .flags → mn ∈ [Mnemonic.PHP, .BRK]) (by decide) hr)
    simp only [he, pushRegister, State.setFlags_reg _ _ hr]
    exact sameButI_endStep (s := s.push _) hf _ _
  | pla hi =>
    subst hi
    exact sameButI_setReg (s := s.pull) (hf.setZN s.pulled) .a s.pulled _ _
  | plp hi =>
    subst hi
    exact sameButI_endStep (s := s.pull.setFlags (restoredFlags s.pulled)) (.refl _) _ _
  | branchOn m v d hm _ _ _ he =>
    simp only [he]
    exact sameButI_branchOn hf (holds_of_mem hm (fun _ p => p.1.getLsbD 2 = false) (by decide)) v _ d
  | brk hb =>
    subst hb
    exact absurd (.tail _ (.head _)) hi
  | rti hi =>
    subst hi
    rintro t ⟨⟩
    exact ⟨_, .refl _, rfl⟩
  | addOperand src _ _ _ he =>
    simp only [he, addOperand, sourceByte_setFlags, readPenalty_setFlags]
    exact sameButI_adderStep hf _ _ _
  | subOperand src _ _ _ he =>
    simp only [he, subOperand, sourceByte_setFlags, readPenalty_setFlags]
    exact sameButI_adderStep hf _ _ _
  | combine fn src _ _ _ he =>
    simp only [he, combine, sourceByte_setFlags, readPenalty_setFlags]
    exact sameButI_setReg (hf.setZN _) .a _ _ _
  | bitTest m _ _ _ he =>
    simp only [he, bitTest, sourceByte_setFlags, readPenalty_setFlags]
    exact sameButI_endStep (s := s.setFlags _) (hf.bitFlags s.a _) _ _
  | compareRegister r src hm _ _ he =>
    have hr : r ≠ .flags := holds_of_mem hm (fun _ r => r ≠ .flags) (by decide)
    simp only [he, compareRegister, sourceByte_setFlags, readPenalty_setFlags, State.setFlags_reg _ _ hr]
    exact sameButI_endStep (s := s.setFlags _) (hf.compareFlags _ _) _ _
  | jump w hm _ _ he =>
    have hw : w (s.setFlags f) = w s := by obtain ⟨w', -, rfl⟩ | ⟨p, -, rfl⟩ := hm <;> rfl
    simp only [he, hw]
    exact sameButI_endStepAt hf _ _ _
  | jsr w hi =>
    subst hi
    exact sameButI_endStepAt (s := s.push16 (s.pc + 2)) hf _ _ _
  | rts hi =>
    subst hi
    exact sameButI_endStepAt (s := s.pull16) hf _ _ _
  | nop hi =>
    subst hi
    exact sameButI_endStep hf _ _

end

/-- `u` is `t` but for Flags.I and the byte of memory at `a`. -/
structure SameButIAt (a : Word) (t u : State) : Prop where
  rest : u.a = t.a ∧ u.x = t.x ∧ u.y = t.y ∧ u.sp = t.sp ∧ u.pc = t.pc ∧ u.cyc = t.cyc ∧ u.cfg = t.cfg
  flags : AgreeOffI t.flags u.flags
  mem : ∀ b, b ≠ a → u.peek b = t.peek b

/-- Where memories agree off one byte, and that byte off bit 2, every byte agrees off bit 2. -/
theorem SameButIAt.agreeOffI_peek {a : Word} {t u : State} (h : SameButIAt a t u) (ha : AgreeOffI (t.peek a) (u.peek a))
    (b : Word) : AgreeOffI (t.peek b) (u.peek b) := by
  by_cases hb : b = a
  · exact hb ▸ ha
  · exact h.mem b hb ▸ .refl _

/-- BRK is the one instruction with its mnemonic. -/
theorem eq_brk_of_mnemonic {i : Instr} (h : i.entry.mnemonic = .BRK) : i = .brk := by
  cases i with
  | brk => rfl
  | _ => cases h

theorem State.addCost_peek (s : State) (n : Nat) (b : Word) : (s.addCost n).peek b = s.peek b := rfl

section
variable {s : State} {f : Byte}

/-- PHP pushes Flags, and with it Flags.I (R141). -/
theorem php_sameButIAt (hf : AgreeOffI s.flags f) {i : Instr} {t : State} (hi : i.entry.mnemonic = .PHP)
    (h : exec i s = .next t) : ∃ u, exec i (s.setFlags f) = .next u ∧ SameButIAt (stackAddr s.sp) t u ∧
      (s.mem.wf = true → AgreeOffI (t.peek (stackAddr s.sp)) (u.peek (stackAddr s.sp))) := by
  have hm : (i.entry.mnemonic, Reg8.flags) ∈ registerPushes := hi ▸ .tail _ (.head _)
  obtain ⟨-, he⟩ := pushesRegister_of_mem hm
  cases (he s).symm.trans h
  have hmem (b : Word) (hb : b ≠ stackAddr s.sp) : ((s.setFlags f).push f).peek b = (s.push s.flags).peek b :=
    (State.peek_push_ne (s.setFlags f) f hb).trans (State.peek_push_ne s s.flags hb).symm
  refine ⟨_, he (s.setFlags f), ⟨⟨rfl, rfl, rfl, rfl, rfl, rfl, rfl⟩, hf, hmem⟩, fun hwf => ?_⟩
  have hbyte : (s.push s.flags).peek (stackAddr s.sp) = s.flags := State.peek_push_same hwf _
  have hbyte' : ((s.setFlags f).push f).peek (stackAddr s.sp) = f := State.peek_push_same (s := s.setFlags f) hwf f
  show AgreeOffI ((s.push s.flags).peek _) (((s.setFlags f).push f).peek _)
  rw [hbyte, hbyte']
  exact hf

/-- The trap entry pushes Flags as its third byte, sets Flags.I, and reads no flag (R160). -/
theorem takeTrap_sameButIAt (hf : AgreeOffI s.flags f) :
    SameButIAt (stackAddr (s.sp - 2)) (takeTrap s) (takeTrap (s.setFlags f)) := by
  obtain ⟨ha, hx, hy, hsp, hflags, hcyc, hcfg, -⟩ := takeTrap_fields s
  obtain ⟨ha', hx', hy', hsp', hflags', hcyc', hcfg', -⟩ := takeTrap_fields (s.setFlags f)
  have hpc : (takeTrap (s.setFlags f)).pc = (takeTrap s).pc := (takeTrap_pc (s.setFlags f)).trans (takeTrap_pc s).symm
  refine ⟨⟨ha'.trans ha.symm, hx'.trans hx.symm, hy'.trans hy.symm, hsp'.trans hsp.symm, hpc, hcyc'.trans hcyc.symm,
    hcfg'.trans hcfg.symm⟩, ?_, fun b hb => ?_⟩
  · rw [hflags, hflags']
    exact hf.flagSet maskI true
  · exact (peek_takeTrap_of_ne_flags (s.setFlags f) hb).trans (peek_takeTrap_of_ne_flags s hb).symm

theorem brk_sameButIAt (hf : AgreeOffI s.flags f) {i : Instr} {t : State} (hi : i.entry.mnemonic = .BRK)
    (h : exec i s = .next t) : ∃ u, exec i (s.setFlags f) = .next u ∧ SameButIAt (stackAddr (s.sp - 2)) t u ∧
      (s.mem.wf = true → AgreeOffI (t.peek (stackAddr (s.sp - 2))) (u.peek (stackAddr (s.sp - 2)))) := by
  cases eq_brk_of_mnemonic hi
  have he (r : State) : exec .brk r = .next ((takeTrap r).addCost 7) := rfl
  cases (he s).symm.trans h
  obtain ⟨⟨ha, hx, hy, hsp, hpc, hcyc, hcfg⟩, hflags, hmem⟩ := takeTrap_sameButIAt hf
  refine ⟨_, he (s.setFlags f), ⟨⟨ha, hx, hy, hsp, hpc, ?_, hcfg⟩, hflags, hmem⟩, fun hwf => ?_⟩
  · rw [State.addCost_cyc, State.addCost_cyc, hcyc, hcfg]
  · have hbyte : (takeTrap (s.setFlags f)).peek (stackAddr (s.sp - 2)) = pushedBreakFlags f :=
      peek_takeTrap_flags (s := s.setFlags f) hwf
    rw [State.addCost_peek, State.addCost_peek, peek_takeTrap_flags hwf, hbyte]
    exact hf.pushedBreakFlags

end

/-- Settles O16: PHP and BRK push Flags, so one byte differs; any other instruction only keeps or writes Flags.I. -/
theorem interruptDisableDecidesNothing : Obligations.InterruptDisableDecidesNothing := by
  intro i s t h
  have hf := AgreeOffI.xor_maskI s.flags
  by_cases hphp : i.entry.mnemonic = .PHP
  · obtain ⟨u, hu, hsame, hbyte⟩ := php_sameButIAt hf hphp h
    obtain ⟨ha, hx, hy, hsp, hpc, hcyc, hcfg⟩ := hsame.rest
    exact ⟨u, hu, ha, hx, hy, hsp, hpc, hcyc, hcfg, hsame.flags, fun b hb _ => hsame.mem b (hb hphp),
      fun hwf => hsame.agreeOffI_peek (hbyte hwf)⟩
  by_cases hbrk : i.entry.mnemonic = .BRK
  · obtain ⟨u, hu, hsame, hbyte⟩ := brk_sameButIAt hf hbrk h
    obtain ⟨ha, hx, hy, hsp, hpc, hcyc, hcfg⟩ := hsame.rest
    exact ⟨u, hu, ha, hx, hy, hsp, hpc, hcyc, hcfg, hsame.flags, fun b _ hb => hsame.mem b (hb hbrk),
      fun hwf => hsame.agreeOffI_peek (hbyte hwf)⟩
  · obtain ⟨g, hg, hu⟩ := exec_sameButI hf (i := i) (by simp [hphp, hbrk]) t h
    exact ⟨t.setFlags g, hu, rfl, rfl, rfl, rfl, rfl, rfl, rfl, hg, fun _ _ _ => rfl, fun _ _ _ _ => rfl⟩

end Sys2Proof.Machine
end

section
/-! SUPPORT. What depends on CYC, what a step may cost, and what the two resets leave: the statements of
70_reset_and_hazards.md. -/

namespace Sys2Proof.Machine

/-! ### What depends on CYC -/

/-- The cost of a step reads no cycle count (R80, R410). -/
theorem stepCost_with_cyc (i : Instr) (s : State) (n : Nat) : stepCost i { s with cyc := n } = stepCost i s := rfl

/-- A completed instruction leaves the parameters as they were (R21). -/
theorem exec_cfg {i : Instr} {s t : State} (h : exec i s = .next t) : t.cfg = s.cfg := by
  obtain ⟨n, u, w, -, rfl, hu⟩ := exec_next h
  exact hu.cfg

/-- A completed instruction adds its cost to CYC (R27, R313). -/
theorem exec_cyc {i : Instr} {s t : State} (h : exec i s = .next t) :
    t.cyc = (s.cyc + stepCost i s) % 2 ^ s.cfg.cycWidth :=
  (completedStepAddsItsCost i s t h).1

/-- With another count the instruction does the same, and the counts grow by one cost (R410). -/
theorem exec_with_cyc {i : Instr} {s t : State} (h : exec i s = .next t) (n : Nat) :
    exec i { s with cyc := n } = .next { t with cyc := (n + stepCost i s) % 2 ^ s.cfg.cycWidth } := by
  obtain ⟨m, hm⟩ := exec_sameButCost s n (b := s.cfg.penaltyOnWrite) i t h
  have hsame : t.withCost m s.cfg.penaltyOnWrite = { t with cyc := m } := by rw [State.withCost, ← exec_cfg h]
  have hrun : exec i { s with cyc := n } = .next { t with cyc := m } := hsame ▸ hm
  have hcyc : m = (n + stepCost i { s with cyc := n }) % 2 ^ s.cfg.cycWidth := exec_cyc hrun
  rw [hrun, hcyc, stepCost_with_cyc]

/-- Settles O14: the fetch reads no cycle count, so the step runs the same instruction, at the same cost. -/
theorem nothingButCycDependsOnCyc : Obligations.NothingButCycDependsOnCyc := by
  intro s t n h
  obtain ⟨i, hf, hi⟩ := exec_of_step h
  have hf' : fetch { s with cyc := n } = .ok i := hf
  refine ⟨stepCost i s, exec_cyc hi, ?_⟩
  simp only [step, hf']
  exact exec_with_cyc hi n

/-! ### The cost of a step -/

/-- The most cycles that a penalty class adds, by `PENALTY_ON_WRITE` (R61 to R63, R150). -/
def mostPenalty (onWrite : Bool) : PenaltyClass → Nat
  | .none => 0
  | .read => 1
  | .write => onWrite.toNat
  | .branch => 2

theorem costPenalty_le_most (i : Instr) (s : State) :
    costPenalty i s ≤ mostPenalty s.cfg.penaltyOnWrite i.entry.penalty := by
  unfold costPenalty
  split
  · next h _ =>
    rw [h, mostPenalty]
    split <;> decide
  · next f h _ =>
    rw [h, mostPenalty]
    cases crosses f s <;> cases s.cfg.penaltyOnWrite <;> decide
  · next h _ =>
    rw [h, mostPenalty]
    split
    · split <;> decide
    · decide
  · exact Nat.zero_le _

/-- The rows of the cost table (R411): 2 cycles at least, and 7 at most but where a write's penalty comes on top. -/
theorem baseCycles_bounds (i : Instr) (onWrite : Bool) :
    2 ≤ i.entry.baseCycles ∧ i.entry.baseCycles + mostPenalty onWrite i.entry.penalty ≤ 7 + onWrite.toNat := by
  cases i <;> cases onWrite <;> exact ⟨Nat.le_of_ble_eq_true rfl, Nat.le_of_ble_eq_true rfl⟩

/-- Settles O11: the rows' base cycles with the most that their class adds. -/
theorem stepCostsTwoToEightCycles : Obligations.StepCostsTwoToEightCycles := by
  intro i s
  have hpenalty := costPenalty_le_most i s
  obtain ⟨hlow, hhigh⟩ := baseCycles_bounds i s.cfg.penaltyOnWrite
  have hone := Bool.toNat_le s.cfg.penaltyOnWrite
  unfold stepCost
  refine ⟨by omega, by omega, fun hoff => ?_⟩
  have hzero : s.cfg.penaltyOnWrite.toNat = 0 := by rw [hoff, Bool.toNat_false]
  omega

/-! ### The resets -/

/-- Settles O13: `State.reset` is itself a hard reset. -/
theorem hardResetMeetsTheInvariant : Obligations.HardResetMeetsTheInvariant :=
  ⟨inv_hardReset defaultParams defaultResetAddr, inv_hardReset⟩

/-- The memory that a hard reset leaves: the address in the reset vector, low byte first, and 0x00 elsewhere (R400). -/
theorem peek_resetMemory (w a : Word) :
    (resetMemory w).peek a = if a = 0xFFFC then lo w else if a = 0xFFFD then hi w else 0 := by
  split
  · next h =>
    rw [h]
    exact (Memory.peek_poke_ne _ _ (by decide)).trans (Memory.peek_poke_same rfl _ _)
  · next hlow =>
    split
    · next h =>
      rw [h]
      exact Memory.peek_poke_same (Memory.wf_poke rfl _ _) _ _
    · next hhigh => exact (Memory.peek_poke_ne _ _ hhigh).trans (Memory.peek_poke_ne _ _ hlow)

/-- A hard reset loads PC with the address it wrote to the vector (R400). -/
theorem hardReset_pc (p : Params) (w : Word) : (hardReset p w).pc = w := by
  have hpc : (hardReset p w).pc = mkWord ((resetMemory w).peek 0xFFFD) ((resetMemory w).peek 0xFFFC) := rfl
  rw [hpc, peek_resetMemory, peek_resetMemory]
  exact mkWord_hi_lo w

/-- Settles O56: before the first hard reset and after it, the call leaves `hardReset` of the block's parameters. -/
theorem hardResetZeroesAndLoadsTheVector : Obligations.HardResetZeroesAndLoadsTheVector := by
  intro b w
  cases b with
  | unreset p => exact ⟨hardReset p w, rfl, rfl, rfl, rfl, rfl, rfl, hardReset_pc p w, rfl, peek_resetMemory w⟩
  | running s =>
    exact ⟨hardReset s.cfg w, rfl, rfl, rfl, rfl, rfl, rfl, hardReset_pc s.cfg w, rfl, peek_resetMemory w⟩

/-- Settles O57: the soft reset writes SP and PC alone; the unreset block refuses it. -/
theorem softResetReloadsSpAndPcAlone : Obligations.SoftResetReloadsSpAndPcAlone := by
  refine ⟨fun s => ⟨softReset s, rfl, rfl, rfl, fun q hq => ?_, fun _ => rfl, rfl, rfl⟩, fun _ => rfl⟩
  exact State.reg_setReg_ne (s.setPc (s.peekWord resetVector)) resetSp hq

end Sys2Proof.Machine
end

section
/-! SUPPORT. What writes memory, and the words of the encoding tables. -/

namespace Sys2Proof.Machine

/-- Settles O19: the inversion of `exec` leaves memory as it was or names an instruction that stores. -/
theorem onlyStoringInstructionsWriteMemory : Obligations.OnlyStoringInstructionsWriteMemory := by
  intro i s t h hn hshift
  obtain ⟨n, u, w, -, rfl, hu⟩ := exec_next h
  obtain hmem | hstores | ⟨hm, ho⟩ := hu.mem
  · exact fun b => congrArg (Memory.peek · b) hmem
  · exact absurd hstores hn
  · exact absurd (hshift hm) ho

/-- Settles O3: each word is the encoding of its instruction, so it decodes to it. -/
theorem specWordsDecodeToTheirInstructions : Obligations.SpecWordsDecodeToTheirInstructions :=
  ⟨encodeThenDecodeGivesTheInstruction false (.ldaImm 0x05) [] rfl,
    encodeThenDecodeGivesTheInstruction false (.staAbx 0x20F0) [] rfl,
    encodeThenDecodeGivesTheInstruction false (.aslZp 0x10) [] rfl,
    encodeThenDecodeGivesTheInstruction false (.bne 0xFD) [] rfl,
    encodeThenDecodeGivesTheInstruction true (.jmpInd 0x1234) [] rfl,
    encodeThenDecodeGivesTheInstruction false (.adcIzy 0x20) [0x02] rfl⟩

end Sys2Proof.Machine
end
